-- ==== Sys2Proof/Word.lean ====
section
/-! DEFINITION. Levels, bits, bytes and waves: the plain data every other file speaks of. -/

namespace Sys2Proof

/-- Eight bits, bit 0 the least significant (R13). -/
abbrev Byte := BitVec 8

/-- The electrical state of a line at an instant (R12): `low` is the spec's L, written 0; `high` is H, written 1. -/
inductive Level where
  | low
  | high
deriving DecidableEq, Repr, Inhabited

/-- `inv` of R12: the complement of a level. -/
def Level.inv : Level → Level
  | .low => .high
  | .high => .low

/-- The level as the digit R12 writes for it: L is 0 (false), H is 1 (true). -/
def Level.toBit : Level → Bool
  | .low => false
  | .high => true

/-- The level R12 writes as a given digit. -/
def Level.ofBit : Bool → Level
  | false => .low
  | true => .high

/-- A line as a list of (tick, level), oldest first: from that tick on the line has that level, until the next entry. -/
abbrev Wave := List (Nat × Level)

end Sys2Proof
end

