-- ==== Sys2Proof/Config.lean ====
section
/-! DEFINITION. What is fixed before the machine runs: the constants of R9, the parameters of R10, the command table, and
the values the spec leaves open, as constants without a body. -/

namespace Sys2Proof

/-- `BIT_ORDER` of R9. R11 keeps it a named parameter; only the value LSB first is specified, so it has no other
(DESIGN CHOICE, log entry 20; safe). -/
inductive BitOrder where
  | lsbFirst
deriving DecidableEq, Repr, Inhabited

/-- `BREAK_CONVENTION` of R10: how a scan code marks key-up (R97). Host side: the block returns the raw byte. -/
inductive BreakConvention where
  | highBit
  | xorMask (mask : Byte)
deriving DecidableEq, Repr, Inhabited

/-- What the environment does at one interrupt point (R15 `draw`, R204): `arrivals` requests are raised just then; where
interrupts may be taken, up to `serviced` of the held ones are serviced, and the service takes `ticks`. -/
structure IrqDraw where
  arrivals : Nat
  serviced : Nat
  ticks : Nat
deriving DecidableEq, Repr, Inhabited

/-- What surrounding software does between two operations of MainLoop (R182, R187): it takes `ticks`; the USB collaborator
may report a newly available LED byte; and it, or other code outside the block, may write IE (R30): `ie` is the value last
written, none where IE was left alone. -/
structure WorkDraw where
  ticks : Nat
  ledByte : Option Byte
  ie : Option Bool
deriving DecidableEq, Repr, Inhabited

/-- The parameters of R9 that R11 keeps swappable and the parameters of R10, with one of the model's own
(bit0NinthRead). A machine's parameters never change (R32);
they stand in the state so that a claim can quantify over them (DESIGN CHOICE, log entry 1). -/
structure Params where
  /-- `TPB`: ticks per bit period. -/
  tpb : Nat
  /-- `RX_IDLE_LEVEL` of R9. -/
  rxIdleLevel : Level
  /-- `TX_IDLE_LEVEL` of R9. -/
  txIdleLevel : Level
  /-- `RX_INVERT` of R9. -/
  rxInvert : Bool
  /-- `TX_INVERT` of R9. -/
  txInvert : Bool
  /-- `BIT_ORDER` of R9. -/
  bitOrder : BitOrder
  /-- `RX_START_IS_BIT0`: whether the start level itself is shifted in as data bit 0. -/
  rxStartIsBit0 : Bool
  /-- Where `RX_START_IS_BIT0` is true: whether DECODE_FRAME makes the nine reads of R60, or the eight of R131's pseudocode.
  The spec gives both and chooses neither (DESIGN CHOICE, log entry 12; safe: a claim holds for either). -/
  bit0NinthRead : Bool
  /-- `RX_FIRST_DELAY`: ticks from invocation of DECODE_FRAME to its first sample. -/
  rxFirstDelay : Nat
  /-- `RX_TAIL_DELAY`: ticks from the last sample to the return of DECODE_FRAME. -/
  rxTailDelay : Nat
  /-- `TX_START_LEVEL`: level of the outbound start pulse. -/
  txStartLevel : Level
  /-- `TX_START_CELLS`: length of the start pulse in bit periods. -/
  txStartCells : Nat
  /-- `TX_STOP_LEVEL`: level of the outbound stop pattern. -/
  txStopLevel : Level
  /-- `STOP_SHORT_CELLS`: stop length in bit periods when `isLast` is false. -/
  stopShortCells : Nat
  /-- `STOP_LONG_CELLS`: stop length in bit periods when `isLast` is true. -/
  stopLongCells : Nat
  /-- `KBD_STOP_CELLS`: bit periods the keyboard holds the line idle after data cell 7; an assumption on the environment. -/
  kbdStopCells : Nat
  /-- `POLL_LATENCY_MAX`: a premise of claims, which no operation reads. -/
  pollLatencyMax : Nat
  /-- `IRQ_JITTER_MAX`: a premise of claims, which no operation reads. -/
  irqJitterMax : Nat
  /-- `WARMUP_FRAMES`: frames discarded after power-up (host side). -/
  warmupFrames : Nat
  /-- `IE_RESET`: value of IE when the block is first used. -/
  ieReset : Bool
  /-- `PIN_RX`: which physical pin carries PORT_RX; unobservable in the block (R51). -/
  pinRx : Nat
  /-- `PIN_TX`: which physical pin carries PORT_TX; another pin than `PIN_RX`. -/
  pinTx : Nat
  /-- `LED_MAP`: for each HID LED byte, in order, the native LED bitmask (R89, R168). -/
  ledMap : Vector (BitVec 7) 256
  /-- `BREAK_CONVENTION`: how a scan code marks key-up (R97). Host side: no operation of the block reads it. -/
  breakConvention : BreakConvention
deriving DecidableEq, Repr

/-- `RX_ACTIVE_LEVEL` of R9: the complement of `RX_IDLE_LEVEL`. -/
def Params.rxActiveLevel (c : Params) : Level := c.rxIdleLevel.inv

/-- How many cells the stop pattern lasts (R145): the long one when `isLast`. -/
def Params.stopCells (c : Params) (isLast : Bool) : Nat :=
  if isLast then c.stopLongCells else c.stopShortCells

namespace Config

/-- `BAUD` of R9: nominal, no rule depends on it. -/
def baud : Nat := 1200

/-- `T_BIT_US` of R9: the bit period in microseconds, nominal (R255). -/
def bitPeriodUs : Nat := 833

/-- `RX_DATA_BITS` of R9. -/
def rxDataBits : Nat := 8

/-- `TX_DATA_BITS` of R9. -/
def txDataBits : Nat := 7

/-- The level of the inbound line at a tick that the state's script says nothing of (R14: the environment supplies it). A
free value (log entry 2). -/
opaque freeRx : Nat → Level

/-- What the environment does at the n-th interrupt point, where the state's script does not say (R204: drawn freely). A
free value (log entry 3). -/
opaque freeIrq : Nat → IrqDraw

/-- What surrounding software does the n-th time it runs, where the state's script does not say (R187). A free value (log
entry 5). -/
opaque freeWork : Nat → WorkDraw

/-- `LED_MAP` of R10, OPEN: for each HID LED byte, in order, the native LED bitmask (log entry 8). -/
opaque ledMap : Vector (BitVec 7) 256

/-- `WARMUP_FRAMES` of R10, OPEN (log entry 8). -/
opaque warmupFrames : Nat

/-- `POLL_LATENCY_MAX` of R10, OPEN (log entry 8). -/
opaque pollLatencyMax : Nat

/-- `IRQ_JITTER_MAX` of R10, OPEN (log entry 8). -/
opaque irqJitterMax : Nat

/-- Whether a receive under `RX_START_IS_BIT0` makes R60's ninth read: open (log entry 12). -/
opaque bit0NinthRead : Bool

/-- `BREAK_CONVENTION` of R10, OPEN (R97; log entry 8). -/
opaque breakConvention : BreakConvention

/-- The lower of the two pins of R10, OPEN (log entry 8). -/
opaque lowerPin : Nat

/-- The distance between the two pins of R10, less one: OPEN (log entry 8). -/
opaque pinGap : Nat

/-- Whether `PIN_RX` is the lower of the two pins: OPEN (log entry 8). -/
opaque rxPinIsLower : Bool

/-- The higher of the two pins. -/
def higherPin : Nat := lowerPin + 1 + pinGap

end Config

/-- The parameters at R9's values and R10's defaults for a given `TPB`; the OPEN ones are Config's opaque constants, and
`IE_RESET` is 1 (DESIGN CHOICE, log entry 7; unsafe). -/
def Params.ofTpb (tpb : Nat) : Params where
  tpb := tpb
  rxIdleLevel := .high
  txIdleLevel := .low
  rxInvert := true
  txInvert := true
  bitOrder := .lsbFirst
  rxStartIsBit0 := false
  bit0NinthRead := Config.bit0NinthRead
  rxFirstDelay := 3 * tpb / 2
  rxTailDelay := tpb / 2
  txStartLevel := .high
  txStartCells := 1
  txStopLevel := .low
  stopShortCells := 1
  stopLongCells := 2
  kbdStopCells := 1
  pollLatencyMax := Config.pollLatencyMax
  irqJitterMax := Config.irqJitterMax
  warmupFrames := Config.warmupFrames
  ieReset := true
  pinRx := if Config.rxPinIsLower then Config.lowerPin else Config.higherPin
  pinTx := if Config.rxPinIsLower then Config.higherPin else Config.lowerPin
  ledMap := Config.ledMap
  breakConvention := Config.breakConvention

/-- R10's defaults, with `TPB` = 2. -/
def Params.default : Params := Params.ofTpb 2

/-- A row of the command table (R70, R93): the opcode, and whether an operand byte follows (format CMD2, R92). -/
structure CommandRow where
  opcode : Byte
  hasOperand : Bool
deriving DecidableEq, Repr

namespace Config

/-- `OPC_RESET` (R9, R93). -/
def resetRow : CommandRow := ⟨0x01, false⟩
/-- `OPC_BELL_ON` (R9, R93). -/
def bellOnRow : CommandRow := ⟨0x02, false⟩
/-- `OPC_BELL_OFF` (R9, R93). -/
def bellOffRow : CommandRow := ⟨0x03, false⟩
/-- `OPC_CLICK_ON` (R9, R93). -/
def clickOnRow : CommandRow := ⟨0x0A, false⟩
/-- `OPC_CLICK_OFF` (R9, R93). -/
def clickOffRow : CommandRow := ⟨0x0B, false⟩
/-- `OPC_LED` (R9, R93): "followed by bitmask byte". -/
def ledRow : CommandRow := ⟨0x0E, true⟩
/-- `OPC_LAYOUT` (R9, R93). -/
def layoutRow : CommandRow := ⟨0x0F, false⟩

/-- The read-only command table of R34 and R93: closed at seven entries (R95). -/
def commandTable : List CommandRow :=
  [resetRow, bellOnRow, bellOffRow, clickOnRow, clickOffRow, ledRow, layoutRow]

end Config

end Sys2Proof
end

