-- ==== Sys2Proof/Syntax.lean ====
section
/-! DEFINITION. The thirteen operations of R100, one constructor per row of spec/opcode_table.json, and the forms in which
the host asks for them. -/

namespace Sys2Proof

/-- An operation of the block with its operands (R100). -/
inductive Instr where
  /-- READ_PIN (R111). -/
  | readPin
  /-- WRITE_PIN(v) (R112). -/
  | writePin (v : Level)
  /-- DELAY(n), n in ticks (R113). -/
  | delay (n : Nat)
  /-- START_DETECT (R114). -/
  | startDetect
  /-- DECODE_FRAME (R126). -/
  | decodeFrame
  /-- SEND_BYTE(value, isLast) (R142). -/
  | sendByte (value : Byte) (isLast : Bool)
  /-- CMD_RESET (R161). -/
  | cmdReset
  /-- CMD_BELL_ON (R162). -/
  | cmdBellOn
  /-- CMD_BELL_OFF (R163). -/
  | cmdBellOff
  /-- CMD_CLICK_ON (R164). -/
  | cmdClickOn
  /-- CMD_CLICK_OFF (R165). -/
  | cmdClickOff
  /-- CMD_LED_UPDATE(m); bits 6 to 0 of m are sent (R166). -/
  | cmdLedUpdate (m : Byte)
  /-- CMD_LAYOUT_QUERY (R167). -/
  | cmdLayoutQuery
deriving DecidableEq, Repr

/-- The mnemonics of R100. -/
inductive Mnemonic where
  | readPin
  | writePin
  | delay
  | startDetect
  | decodeFrame
  | sendByte
  | cmdReset
  | cmdBellOn
  | cmdBellOff
  | cmdClickOn
  | cmdClickOff
  | cmdLedUpdate
  | cmdLayoutQuery
deriving DecidableEq, Repr

/-- A call by the host sequencer. -/
inductive Call where
  /-- `MNEMONIC(operands)`, the syntax of R100; an operand is a number, a level or a Boolean is 0 or 1 (log entry 14). -/
  | named (op : Mnemonic) (operands : List Nat)
  /-- A native command given by its opcode byte and operand byte (R91 to R94); a command without operand does not read the
  second (log entry 13). -/
  | native (opcode operand : Byte)
deriving DecidableEq, Repr

/-- What the host side of the block may do next. -/
inductive HostAction where
  /-- Invoke an operation of the block. -/
  | invoke (c : Call)
  /-- Code outside the block writes IE (R30; log entry 24). -/
  | writeIE (b : Bool)
  /-- Surrounding software runs for a drawn time (R187; log entry 5). -/
  | work
deriving DecidableEq, Repr

/-- What an operation returns to the host: the column "result" of R100. -/
inductive HostResult where
  | none
  | level (l : Level)
  | truth (b : Bool)
  | code (c : Byte)
deriving DecidableEq, Repr

end Sys2Proof
end

