-- ==== Sys2Proof/Decode.lean ====
section
/-! DEFINITION. Reading a host call as an instruction (total, rejecting by name), and writing an instruction as a call. -/

namespace Sys2Proof

/-- Why a call names no operation. -/
inductive DecodeError where
  /-- One of the 121 unassigned values of the 7-bit opcode (R95). -/
  | unassignedOpcode (opcode : BitVec 7)
  /-- Not the operands that R100 lists for the operation. -/
  | wrongOperands (op : Mnemonic)
deriving DecidableEq, Repr

/-- The seven bits of a byte that a frame carries (R88, R91). -/
def sevenBits (b : Byte) : Byte := b &&& 0x7F

/-- A one-bit operand of R100, written 0 or 1. -/
def bitOperand : Nat → Option Bool
  | 0 => some false
  | 1 => some true
  | _ => none

/-- An eight-bit operand of R100. -/
def byteOperand (n : Nat) : Option Byte :=
  if n < 256 then some (BitVec.ofNat 8 n) else none

/-- The operation a native opcode selects (R93, under the mask 0x7F of the table), with its operand (R92: seven bits). -/
def decodeNative (opcode operand : Byte) : Except DecodeError Instr :=
  let op := sevenBits opcode
  if op = Config.resetRow.opcode then .ok .cmdReset
  else if op = Config.bellOnRow.opcode then .ok .cmdBellOn
  else if op = Config.bellOffRow.opcode then .ok .cmdBellOff
  else if op = Config.clickOnRow.opcode then .ok .cmdClickOn
  else if op = Config.clickOffRow.opcode then .ok .cmdClickOff
  else if op = Config.ledRow.opcode then .ok (.cmdLedUpdate (sevenBits operand))
  else if op = Config.layoutRow.opcode then .ok .cmdLayoutQuery
  else .error (.unassignedOpcode (opcode.setWidth 7))

/-- An operand list of no operands. -/
def noOperands (op : Mnemonic) (i : Instr) : List Nat → Except DecodeError Instr
  | [] => .ok i
  | _ :: _ => .error (.wrongOperands op)

/-- The operation and operands a call by name gives (R100). -/
def decodeNamed (op : Mnemonic) (operands : List Nat) : Except DecodeError Instr :=
  match op with
  | .readPin => noOperands op .readPin operands
  | .writePin =>
    match operands with
    | [v] =>
      match bitOperand v with
      | some b => .ok (.writePin (Level.ofBit b))
      | none => .error (.wrongOperands op)
    | _ => .error (.wrongOperands op)
  | .delay =>
    match operands with
    | [n] => .ok (.delay n)
    | _ => .error (.wrongOperands op)
  | .startDetect => noOperands op .startDetect operands
  | .decodeFrame => noOperands op .decodeFrame operands
  | .sendByte =>
    match operands with
    | [v, l] =>
      match byteOperand v, bitOperand l with
      | some value, some isLast => .ok (.sendByte value isLast)
      | _, _ => .error (.wrongOperands op)
    | _ => .error (.wrongOperands op)
  | .cmdReset => noOperands op .cmdReset operands
  | .cmdBellOn => noOperands op .cmdBellOn operands
  | .cmdBellOff => noOperands op .cmdBellOff operands
  | .cmdClickOn => noOperands op .cmdClickOn operands
  | .cmdClickOff => noOperands op .cmdClickOff operands
  | .cmdLedUpdate =>
    match operands with
    | [m] =>
      match byteOperand m with
      | some b => .ok (.cmdLedUpdate b)
      | none => .error (.wrongOperands op)
    | _ => .error (.wrongOperands op)
  | .cmdLayoutQuery => noOperands op .cmdLayoutQuery operands

/-- The instruction a host call asks for. -/
def decodeCall : Call → Except DecodeError Instr
  | .named op operands => decodeNamed op operands
  | .native opcode operand => decodeNative opcode operand

/-- The call by name of an instruction: its mnemonic and operands (R100). -/
def Instr.namedCall : Instr → Call
  | .readPin => .named .readPin []
  | .writePin v => .named .writePin [v.toBit.toNat]
  | .delay n => .named .delay [n]
  | .startDetect => .named .startDetect []
  | .decodeFrame => .named .decodeFrame []
  | .sendByte value isLast => .named .sendByte [value.toNat, isLast.toNat]
  | .cmdReset => .named .cmdReset []
  | .cmdBellOn => .named .cmdBellOn []
  | .cmdBellOff => .named .cmdBellOff []
  | .cmdClickOn => .named .cmdClickOn []
  | .cmdClickOff => .named .cmdClickOff []
  | .cmdLedUpdate m => .named .cmdLedUpdate [m.toNat]
  | .cmdLayoutQuery => .named .cmdLayoutQuery []

/-- The encoding of an instruction: the bytes of R93 for the seven commands, the call by name of R100 for the six operations
that have no bit encoding. -/
def encode : Instr → Call
  | .readPin => Instr.readPin.namedCall
  | .writePin v => (Instr.writePin v).namedCall
  | .delay n => (Instr.delay n).namedCall
  | .startDetect => Instr.startDetect.namedCall
  | .decodeFrame => Instr.decodeFrame.namedCall
  | .sendByte value isLast => (Instr.sendByte value isLast).namedCall
  | .cmdReset => .native 0x01 0
  | .cmdBellOn => .native 0x02 0
  | .cmdBellOff => .native 0x03 0
  | .cmdClickOn => .native 0x0A 0
  | .cmdClickOff => .native 0x0B 0
  | .cmdLedUpdate m => .native 0x0E (sevenBits m)
  | .cmdLayoutQuery => .native 0x0F 0

/-- The bytes of an instruction's bit encoding, in the order they are sent (R53, R94); none where R100 gives no bit encoding. -/
def encodeBytes : Instr → List Byte
  | .readPin => []
  | .writePin _ => []
  | .delay _ => []
  | .startDetect => []
  | .decodeFrame => []
  | .sendByte _ _ => []
  | .cmdReset => [0x01]
  | .cmdBellOn => [0x02]
  | .cmdBellOff => [0x03]
  | .cmdClickOn => [0x0A]
  | .cmdClickOff => [0x0B]
  | .cmdLedUpdate m => [0x0E, sevenBits m]
  | .cmdLayoutQuery => [0x0F]

/-- The call whose bits are `w`, of which `nbits` are given and the rest are 0: the first byte is bits 7 to 0, the second bits
15 to 8. R92 gives only the order of the bytes; how they are packed into one number, and that an operand byte not given reads
as 0, is the model's choice (DESIGN CHOICE, log entry 29). -/
def callOfBits (nbits w : Nat) : Call :=
  let bits := w % 2 ^ nbits
  .native (BitVec.ofNat 8 bits) (BitVec.ofNat 8 (bits / 256))

/-- The instruction the decoder reads from an instruction whose bits are `w`. -/
def decodeTableWord (nbits w : Nat) : Option Instr :=
  match decodeCall (callOfBits nbits w) with
  | .ok i => some i
  | .error _ => none

end Sys2Proof
end

