-- ==== Sys2Proof/Machine/State.lean ====
section
/-! DEFINITION. The machine's state, as plain data; why a step can stop; the state after reset. -/

namespace Sys2Proof.Machine

/-- The phases of the receiver engine, `RXPH` (R29). -/
inductive RxPhase where
  | idle
  | waitFirst
  | sample (k : Fin 8)
  | tail
deriving DecidableEq, Repr

/-- The phases of the transmitter engine, `TXPH` (R29). -/
inductive TxPhase where
  | idle
  | start
  | data (i : Fin 7)
  | stop
deriving DecidableEq, Repr

/-- Where MainLoop stands in its iteration (R182; DEDUCED, log entry 5). -/
inductive LoopPhase where
  /-- About to sample the line. -/
  | poll
  /-- The start condition was seen: a frame is received next. -/
  | receive
  /-- The line was idle: USB poll, timer tick and, if LED bytes are newly available, the LED update. -/
  | idle
  /-- The report hand-over that ends either kind of iteration. -/
  | flush
deriving DecidableEq, Repr

/-- Where the host's thread stands between two operations, as far as the contract of R112 corner case c and R183 asks
(log entry 28). -/
inductive HostPoint where
  /-- No operation of the block has been called yet, but for WRITE_PIN (R236). -/
  | boot
  /-- An operation has returned, and the thread has done nothing since. -/
  | returned (i : Instr)
  /-- The thread has done something outside the block since the last operation returned. -/
  | outside
deriving DecidableEq, Repr

/-- The host side of the block: what it has asked for, what it was last given, and MainLoop's own state (log entries 4, 5,
15, 25, 27, 28). -/
structure HostSide where
  /-- Host actions asked for and not yet run, the next first. -/
  queue : List HostAction
  /-- What the last operation returned. -/
  result : HostResult
  /-- MainLoop's place in its iteration. -/
  loop : LoopPhase
  /-- `reportsSeen` of R186. -/
  reportsSeen : BitVec 8
  /-- The codes handed to `processFrame` (R182), oldest first; for observation. -/
  delivered : List Byte
  /-- The LED byte that the USB collaborator has reported and no LED update has yet carried (R168, R182). -/
  newLed : Option Byte
  /-- Where the thread stands. -/
  point : HostPoint
deriving DecidableEq, Repr

/-- The environment's inputs, as far as they are scripted; past the script they are free values of Config (log entries 2, 3,
5). -/
structure Environment where
  /-- The scripted part of rx(t) (R14). -/
  rxWave : Wave
  /-- The next interrupt draws. -/
  irqs : List IrqDraw
  /-- How many interrupt draws have been made. -/
  irqCount : Nat
  /-- The next draws of surrounding software. -/
  work : List WorkDraw
  /-- How many draws of surrounding software have been made. -/
  workCount : Nat
deriving DecidableEq, Repr

/-- The twelve items of R20; the two histories of R36; and the model's own fields: the host side, the environment's inputs
and the parameters. -/
@[ext]
structure State where
  /-- RXSR (R21). -/
  rxsr : BitVec 8
  /-- RXCNT (R22). -/
  rxcnt : BitVec 4
  /-- RXOUT (R23). -/
  rxout : BitVec 8
  /-- RXPH (R29). -/
  rxph : RxPhase
  /-- TXSR (R24). -/
  txsr : BitVec 8
  /-- TXCNT (R25). -/
  txcnt : BitVec 3
  /-- TXLAST (R26). -/
  txlast : Bool
  /-- TXLINE (R27). -/
  txline : Level
  /-- TXPH (R29). -/
  txph : TxPhase
  /-- IE (R30). -/
  ie : Bool
  /-- PEND (R35). -/
  pend : Nat
  /-- now (R14). -/
  now : Nat
  /-- TXHIST (R36): every write of PORT_TX, oldest first. -/
  txhist : Wave
  /-- RXHIST (R36): every read of PORT_RX, oldest first. -/
  rxhist : Wave
  /-- The host side (the model's own). -/
  host : HostSide
  /-- The environment's inputs (the model's own). -/
  env : Environment
  /-- The parameters of R9 and R10 (the model's own; no step changes them, R32). -/
  cfg : Params
deriving DecidableEq, Repr

/-- Why the machine stops with a fault: never. The block raises no exception (R200) and 93_implementation_defined.md says of a
model that faults anywhere in it that it "has added something the source does not have". So there is no constructor, and
nobody raises one: safe (log entry 26). -/
inductive Fault where
deriving DecidableEq, Repr

/-- Why a step is refused. -/
inductive Refusal where
  /-- An instruction without a meaning yet, by its mnemonic. Raised by no arm of `exec`: safe. -/
  | notModelled (mnemonic : String)
  /-- The host gave a native opcode that no command has (R95: "No CMD_ operation exists for an unassigned opcode"). Raised by
  the step, never by an operation: safe. -/
  | unassignedOpcode (opcode : BitVec 7)
  /-- The host called an operation with operands other than R100's. Raised by the step, never by an operation: safe. -/
  | malformedCall (op : Mnemonic)
deriving DecidableEq, Repr

/-- The state when the block is first used, with given parameters: the table of R40. RXSR, RXCNT, RXOUT, TXSR, TXCNT and
TXLAST have no value there and are zero here (DESIGN CHOICE, log entry 6; unsafe). -/
def State.resetWith (c : Params) : State where
  rxsr := 0
  rxcnt := 0
  rxout := 0
  rxph := .idle
  txsr := 0
  txcnt := 0
  txlast := false
  txline := c.txIdleLevel
  txph := .idle
  ie := c.ieReset
  pend := 0
  now := 0
  txhist := []
  rxhist := []
  host := { queue := [], result := .none, loop := .poll, reportsSeen := 0, delivered := [], newLed := none, point := .boot }
  env := { rxWave := [], irqs := [], irqCount := 0, work := [], workCount := 0 }
  cfg := c

/-- The machine right after reset, with R10's defaults. -/
def State.reset : State := State.resetWith Params.default

end Sys2Proof.Machine
end

