-- ==== Sys2Proof/Machine/Flags.lean ====
section
/-! DEFINITION. The one flag of the block, IE (R30). There is no status flag and no condition code (R31). -/

namespace Sys2Proof.Machine

/-- IE <- b, whatever it was. -/
def State.setIE (b : Bool) (s : State) : State :=
  { s with ie := b }

/-- Entry of the critical section (R142, R146): IE <- 0, whatever IE was. -/
def State.maskInterrupts (s : State) : State := s.setIE false

/-- The unconditional release (R146): IE <- 1; nothing is restored. -/
def State.releaseInterrupts (s : State) : State := s.setIE true

end Sys2Proof.Machine
end

