-- ==== Sys2Proof/Machine/Operands.lean ====
section
/-! DEFINITION. From levels to logical bits and back, and the receiver's shift (R12, R13, R87, R88, R90). -/

namespace Sys2Proof.Machine

/-- The logical bit a sampled level stands for (R126): with RX_INVERT, "0 electrical = 1 logical". -/
def logicalBit (c : Params) (l : Level) : Bool :=
  if c.rxInvert then l.inv.toBit else l.toBit

/-- The level a logical bit is driven as (R142): with TX_INVERT, logical 1 is driven as L. -/
def outboundLevel (c : Params) (b : Bool) : Level :=
  if c.txInvert then (Level.ofBit b).inv else Level.ofBit b

/-- The level of data cell `i` of the outbound frame of `value` (R84, R88): bit `i`, least significant first. -/
def dataLevel (c : Params) (value : Byte) (i : Fin 7) : Level :=
  outboundLevel c (value.getLsbD i)

/-- `(r >> 1) | (bit << 7)` (R13, R87): a logical shift right, the new bit entering at bit 7. -/
def shiftIn (r : Byte) (bit : Bool) : Byte :=
  (r >>> 1) ||| ((BitVec.ofBool bit).setWidth 8 <<< 7)

/-- LED_MAP of a HID LED byte (R89, R168). -/
def ledMask (c : Params) (b : Byte) : BitVec 7 := c.ledMap[b.toNat]'b.isLt

/-- The byte that a register `r` becomes when the levels are shifted in, the first of the list first (R87). At the sample
level of R16 this is the whole of DECODE_FRAME. -/
def assemble (c : Params) (r : Byte) : List Level → Byte
  | [] => r
  | l :: ls => assemble c (shiftIn r (logicalBit c l)) ls

/-- The level that START_DETECT takes for a start condition (R114). -/
def startSeen (c : Params) (l : Level) : Bool := l == c.rxActiveLevel

/-- The seven data cells of the outbound frame of `value`, first cell first (R143). -/
def dataCells (c : Params) (value : Byte) : List Level :=
  [dataLevel c value 0, dataLevel c value 1, dataLevel c value 2, dataLevel c value 3, dataLevel c value 4,
    dataLevel c value 5, dataLevel c value 6]

/-- The outbound frame as a list of cells in levels, first cell leftmost (R143): formats TXF_S and TXF_L of R84. At the
sample level of R16 this list is what SEND_BYTE appends to the output history. -/
def frameCells (c : Params) (value : Byte) (isLast : Bool) : List Level :=
  List.replicate c.txStartCells c.txStartLevel ++ dataCells c value ++
    List.replicate (c.stopCells isLast) c.txStopLevel

end Sys2Proof.Machine
end

