-- ==== Sys2Proof/Machine/Ops.lean ====
section
/-! DEFINITION. The shared operations: lines and ports, the clock, the interrupt service, the registers of both engines. -/

namespace Sys2Proof

/-- The level of the last entry, in list order, at or before a tick; none before the first. -/
def Wave.lastAt : Wave → Nat → Option Level
  | [], _ => none
  | (u, l) :: rest, t =>
    match Wave.lastAt rest t with
    | some m => some m
    | none => if u ≤ t then some l else none

end Sys2Proof

namespace Sys2Proof.Machine

/-- One action of the thread of control: the unit between which an interrupt may be serviced (R204). -/
abbrev Action := State → State

/-- The actions of an operation, in order, each to its end (R64, R181). -/
def runActions : List Action → State → State
  | [], s => s
  | a :: as, s => runActions as (a s)

/-! ### Lines and ports (R14, R50, R62) -/

/-- rx(t): the level of the inbound line, an input (R14). -/
def State.rx (s : State) (t : Nat) : Level :=
  (s.env.rxWave.lastAt t).getD (Config.freeRx t)

/-- tx(t): the level of the outbound line, the last level written at or before `t` (R14, R27); the idle level before the
first write (log entry 16). -/
def State.tx (s : State) (t : Nat) : Level :=
  (s.txhist.lastAt t).getD s.cfg.txIdleLevel

/-- MemRead(PORT_RX, 1) of R15: it leaves no trace but in RXHIST (R36, R62). The level read is `s.rx s.now`. -/
def State.recordRead (s : State) : State :=
  { s with rxhist := s.rxhist ++ [(s.now, s.rx s.now)] }

/-- MemWrite(PORT_TX, 1, v) of R15: TXLINE <- v, at once (R112), and an entry of TXHIST (R36). -/
def State.drive (v : Level) (s : State) : State :=
  { s with txline := v, txhist := s.txhist ++ [(s.now, v)] }

/-! ### The clock and the interrupt service (R113, R204 to R209) -/

/-- The `k`-th interrupt draw from here on. -/
def Environment.irqAt (e : Environment) (k : Nat) : IrqDraw :=
  (e.irqs[k]?).getD (Config.freeIrq (e.irqCount + k))

/-- The environment after `n` more interrupt draws. -/
def Environment.skipIrqs (n : Nat) (e : Environment) : Environment :=
  { e with irqs := e.irqs.drop n, irqCount := e.irqCount + n }

/-- The ticks that an interrupt service takes at a point (R204): none while IE = 0; none when no request is held and none
arrives just then (R148); else what the environment draws. -/
def serviceTicks (ie : Bool) (held : Nat) (d : IrqDraw) : Nat :=
  if ie = true ∧ ¬(d.arrivals = 0 ∧ min d.serviced held = 0) then d.ticks else 0

/-- The requests held after a point: while IE = 0 the arriving ones are held (R205); while IE = 1 the serviced ones leave
(R206), and those that arrive are serviced at once (log entry 21). -/
def heldAfter (ie : Bool) (held : Nat) (d : IrqDraw) : Nat :=
  if ie then held - d.serviced else held + d.arrivals

/-- The stretch of the interrupt point at which the machine stands. -/
def State.stretch (s : State) : Nat :=
  serviceTicks s.ie s.pend (s.env.irqAt 0)

/-- PEND after that point. -/
def State.pendAfter (s : State) : Nat :=
  heldAfter s.ie s.pend (s.env.irqAt 0)

/-- A point at which the interrupt service may run: entry and return in one, precise and transparent (R208, R209). Time
passes and PEND changes; no other item of R20 does (R204). -/
def State.interruptPoint (s : State) : State :=
  { s with pend := s.pendAfter, now := s.now + s.stretch, env := s.env.skipIrqs 1 }

/-- `n` interrupt points, one after the other. -/
def State.interruptPoints : Nat → State → State
  | 0, s => s
  | n + 1, s => State.interruptPoints n s.interruptPoint

/-- The total stretch of the next `n` interrupt points: J of R55 and R129. -/
def State.stretchOver : Nat → State → Nat
  | 0, _ => 0
  | n + 1, s => s.stretch + State.stretchOver n s.interruptPoint

/-- Time passes by `n` ticks. -/
def State.advance (n : Nat) (s : State) : State :=
  { s with now := s.now + n }

/-- Delay(n) of R15: `n` ticks, and the stretch of one interrupt point. -/
def State.delay (n : Nat) (s : State) : State :=
  (s.advance n).interruptPoint

/-! ### The receiver engine (R21 to R23, R29) -/

/-- ph <- p of the receiver. -/
def State.setRxPhase (p : RxPhase) (s : State) : State :=
  { s with rxph := p }

/-- RXCNT <- n. -/
def State.setRxCount (n : Nat) (s : State) : State :=
  { s with rxcnt := BitVec.ofNat 4 n }

/-- RXSR <- (RXSR >> 1) | (bit << 7) (R87). -/
def State.shiftRx (bit : Bool) (s : State) : State :=
  { s with rxsr := shiftIn s.rxsr bit }

/-- One sample (R126): the line is read once, and its logical bit shifted in (R116). -/
def State.takeSample (s : State) : State :=
  s.recordRead.shiftRx (logicalBit s.cfg (s.rx s.now))

/-- RXOUT <- RXSR. -/
def State.latchRxOut (s : State) : State :=
  { s with rxout := s.rxsr }

/-! ### The transmitter engine (R24 to R27, R29) -/

/-- ph <- p of the transmitter. -/
def State.setTxPhase (p : TxPhase) (s : State) : State :=
  { s with txph := p }

/-- TXSR <- value; TXLAST <- isLast; TXCNT <- 0. -/
def State.latchTx (value : Byte) (isLast : Bool) (s : State) : State :=
  { s with txsr := value, txlast := isLast, txcnt := 0 }

/-- TXCNT <- n. -/
def State.setTxCount (n : Nat) (s : State) : State :=
  { s with txcnt := BitVec.ofNat 3 n }

/-- Data cell `i` is driven from TXSR (R142). -/
def State.driveData (i : Fin 7) (s : State) : State :=
  s.drive (dataLevel s.cfg s.txsr i)

/-- The length of the stop pattern passes, chosen by TXLAST (R145). -/
def State.stopDelay (s : State) : State :=
  s.delay (s.cfg.stopCells s.txlast * s.cfg.tpb)

/-! ### The host side -/

/-- The operation returns `r` to the host (R100). -/
def State.giveResult (r : HostResult) (s : State) : State :=
  { s with host := { s.host with result := r } }

/-- The host's remaining actions. -/
def State.setQueue (q : List HostAction) (s : State) : State :=
  { s with host := { s.host with queue := q } }

/-- MainLoop's place in its iteration. -/
def State.setLoop (p : LoopPhase) (s : State) : State :=
  { s with host := { s.host with loop := p } }

/-- The next draw of surrounding software. -/
def Environment.workAt (e : Environment) (k : Nat) : WorkDraw :=
  (e.work[k]?).getD (Config.freeWork (e.workCount + k))

/-- The environment after one more draw of surrounding software. -/
def Environment.skipWork (e : Environment) : Environment :=
  { e with work := e.work.drop 1, workCount := e.workCount + 1 }

/-- The point after operation `i` has returned: boot lasts while WRITE_PIN alone is called (R236; log entry 28). -/
def HostPoint.afterReturn (p : HostPoint) (i : Instr) : HostPoint :=
  match p, i with
  | .boot, .writePin _ => .boot
  | _, _ => .returned i

/-- The point after the thread has done something outside the block: boot code leaves it at boot. -/
def HostPoint.afterOutside : HostPoint → HostPoint
  | .boot => .boot
  | .returned _ => .outside
  | .outside => .outside

/-- Operation `i` has returned. -/
def State.noteReturn (i : Instr) (s : State) : State :=
  { s with host := { s.host with point := s.host.point.afterReturn i } }

/-- The thread has done something outside the block. -/
def State.noteOutside (s : State) : State :=
  { s with host := { s.host with point := s.host.point.afterOutside } }

/-- The LED byte that is newly available after a draw of surrounding software: the one the draw brings, else the one held
(R168: "only as the latest value, no history"; log entry 27). -/
def newestLed (d : WorkDraw) (held : Option Byte) : Option Byte :=
  d.ledByte.or held

/-- IE after a draw of surrounding software: the value it wrote, else the one there was (R30; log entry 24). -/
def ieAfterWork (d : WorkDraw) (ie : Bool) : Bool :=
  d.ie.getD ie

/-- Surrounding software runs for a drawn time (R187); of the block it touches nothing but IE, which the USB collaborator may
write (R30, R65; log entry 24). An LED byte that it brings is held until an Idle iteration acts on it (R168, R185; DEDUCED,
log entry 27). -/
def State.surroundingWork (s : State) : State :=
  { s with
    ie := ieAfterWork (s.env.workAt 0) s.ie
    now := s.now + (s.env.workAt 0).ticks
    env := s.env.skipWork
    host := { s.host with
      newLed := newestLed (s.env.workAt 0) s.host.newLed
      point := s.host.point.afterOutside } }

/-- The LED byte held is taken: it is newly available no more. -/
def State.takeLed (s : State) : State :=
  { s with host := { s.host with newLed := none } }

/-- What MainLoop does with a received code (R182, R186): during warm-up it only counts it, else it hands it to
`processFrame`. -/
def State.acceptCode (code : Byte) (s : State) : State :=
  if s.host.reportsSeen.toNat < s.cfg.warmupFrames then
    { s with host := { s.host with reportsSeen := s.host.reportsSeen + 1 } }
  else
    { s with host := { s.host with delivered := s.host.delivered ++ [code] } }

end Sys2Proof.Machine
end

