-- ==== Sys2Proof/Machine/Transmitter.lean ====
section
/-! DEFINITION. SEND_BYTE (42_byte_transmitter.md). -/

namespace Sys2Proof.Machine

/-- Data cell `i` of an outbound frame (R142): the phase, the level, the count, one bit period. -/
def dataCellActions (c : Params) (i : Fin 7) : List Action :=
  [State.setTxPhase (.data i), State.driveData i, State.setTxCount (i.val + 1), State.delay c.tpb]

/-- The seven data cells, least significant bit first (R88). -/
def dataActions (c : Params) : List Action :=
  dataCellActions c 0 ++ dataCellActions c 1 ++ dataCellActions c 2 ++ dataCellActions c 3 ++ dataCellActions c 4 ++
    dataCellActions c 5 ++ dataCellActions c 6

/-- The actions of SEND_BYTE, in order (R142): the mask first, the release last, on the one path there is (R147). -/
def sendByteActions (c : Params) (value : Byte) (isLast : Bool) : List Action :=
  [State.maskInterrupts, State.latchTx value isLast, State.setTxPhase .start, State.drive c.txStartLevel,
    State.delay (c.txStartCells * c.tpb)] ++
  dataActions c ++
  [State.setTxPhase .stop, State.drive c.txStopLevel, State.stopDelay, State.setTxPhase .idle, State.releaseInterrupts]

/-- SEND_BYTE (R142): one frame on PORT_TX under the interrupt mask; IE is 1 at its return, whatever it was (R146). -/
def execSendByte (value : Byte) (isLast : Bool) (s : State) : Host.Outcome State Fault Refusal :=
  .next ((runActions (sendByteActions s.cfg value isLast) s).giveResult .none)

/-- The writes of PORT_TX that SEND_BYTE makes when it is entered at tick `ts` (R60, R143): the start pulse, seven data
cells, the stop pattern. -/
def frameWrites (c : Params) (ts : Nat) (value : Byte) : Wave :=
  [(ts, c.txStartLevel),
    (ts + c.txStartCells * c.tpb, dataLevel c value 0),
    (ts + (c.txStartCells + 1) * c.tpb, dataLevel c value 1),
    (ts + (c.txStartCells + 2) * c.tpb, dataLevel c value 2),
    (ts + (c.txStartCells + 3) * c.tpb, dataLevel c value 3),
    (ts + (c.txStartCells + 4) * c.tpb, dataLevel c value 4),
    (ts + (c.txStartCells + 5) * c.tpb, dataLevel c value 5),
    (ts + (c.txStartCells + 6) * c.tpb, dataLevel c value 6),
    (ts + (c.txStartCells + 7) * c.tpb, c.txStopLevel)]

/-- How long SEND_BYTE takes (R149). -/
def sendByteTicks (c : Params) (isLast : Bool) : Nat :=
  (c.txStartCells + 7 + c.stopCells isLast) * c.tpb

end Sys2Proof.Machine
end

