-- ==== Sys2Proof/Machine/Commands.lean ====
section
/-! DEFINITION. The seven native keyboard commands (43_commands.md): fixed sequences read from the command table (R160). -/

namespace Sys2Proof.Machine

/-- The SEND_BYTE calls of a command (R101): one, or two with a point between them at which IE is 1 and a held interrupt may
be serviced (R148, R166). -/
def commandActions (c : Params) (row : CommandRow) (operand : Byte) : List Action :=
  if row.hasOperand then
    sendByteActions c row.opcode false ++ [State.interruptPoint] ++ sendByteActions c operand true
  else
    sendByteActions c row.opcode true

/-- A native command is issued: nothing is awaited and nothing is returned (R160, R169). -/
def issueCommand (row : CommandRow) (operand : Byte) (s : State) : State :=
  (runActions (commandActions s.cfg row operand) s).giveResult .none

/-- CMD_RESET (R161): resets the keyboard, nothing of the block (R231). -/
def execCmdReset (s : State) : Host.Outcome State Fault Refusal :=
  .next (issueCommand Config.resetRow 0 s)

/-- CMD_BELL_ON (R162). -/
def execCmdBellOn (s : State) : Host.Outcome State Fault Refusal :=
  .next (issueCommand Config.bellOnRow 0 s)

/-- CMD_BELL_OFF (R163). -/
def execCmdBellOff (s : State) : Host.Outcome State Fault Refusal :=
  .next (issueCommand Config.bellOffRow 0 s)

/-- CMD_CLICK_ON (R164). -/
def execCmdClickOn (s : State) : Host.Outcome State Fault Refusal :=
  .next (issueCommand Config.clickOnRow 0 s)

/-- CMD_CLICK_OFF (R165). -/
def execCmdClickOff (s : State) : Host.Outcome State Fault Refusal :=
  .next (issueCommand Config.clickOffRow 0 s)

/-- CMD_LED_UPDATE (R166): the opcode with the short stop, the gap, the bitmask with the long stop. -/
def execCmdLedUpdate (m : Byte) (s : State) : Host.Outcome State Fault Refusal :=
  .next (issueCommand Config.ledRow m s)

/-- CMD_LAYOUT_QUERY (R167). -/
def execCmdLayoutQuery (s : State) : Host.Outcome State Fault Refusal :=
  .next (issueCommand Config.layoutRow 0 s)

end Sys2Proof.Machine
end

