-- ==== Sys2Proof/Machine/FrameDecoder.lean ====
section
/-! DEFINITION. DECODE_FRAME (41_frame_decoder.md). -/

namespace Sys2Proof.Machine

/-- Sample `k` of a frame (R126): the phase, the read, the shift, the count. -/
def sampleActions (k : Fin 8) : List Action :=
  [State.setRxPhase (.sample k), State.takeSample, State.setRxCount (k.val + 1)]

/-- A bit period, and then sample `k`. -/
def nextSampleActions (c : Params) (k : Fin 8) : List Action :=
  State.delay c.tpb :: sampleActions k

/-- What both readings of DECODE_FRAME end with (R126, R131). -/
def tailActions (c : Params) : List Action :=
  [State.setRxPhase .tail, State.delay c.rxTailDelay, State.latchRxOut, State.setRxPhase .idle]

/-- Samples 1 to 7, each one bit period after the one before. -/
def laterSamples (c : Params) : List Action :=
  nextSampleActions c 1 ++ nextSampleActions c 2 ++ nextSampleActions c 3 ++ nextSampleActions c 4 ++
    nextSampleActions c 5 ++ nextSampleActions c 6 ++ nextSampleActions c 7

/-- The ninth read of R60 where RX_START_IS_BIT0 is true, if the parameter has it made: R131's pseudocode has no such read.
It stands at the entry, in the same tick as sample 0, and its level is no sample (DESIGN CHOICE, log entry 12). -/
def ninthReadActions (c : Params) : List Action :=
  if c.bit0NinthRead then [State.recordRead] else []

/-- What stands before sample 0: the first delay in the spec's reading (R126), no delay where the start level itself is
data bit 0 (R131; RXCNT is cleared there too, R22; log entry 12). -/
def leadInActions (c : Params) : List Action :=
  if c.rxStartIsBit0 then State.setRxCount 0 :: ninthReadActions c
  else [State.setRxPhase .waitFirst, State.setRxCount 0, State.delay c.rxFirstDelay]

/-- The actions of DECODE_FRAME, in order (R126; R131 where RX_START_IS_BIT0 is true). Both take eight samples. R126 makes
no other read; under R131 the reads are R60's nine or the eight of R131's pseudocode, as the parameter bit0NinthRead says (log
entry 12). Under R131 sample 0 is the level that this operation reads, as R131's pseudocode has it, not the one START_DETECT read before: where
an interrupt service stands between the two they can differ (DEDUCED, log entry 12). -/
def decodeFrameActions (c : Params) : List Action :=
  leadInActions c ++ sampleActions 0 ++ laterSamples c ++ tailActions c

/-- DECODE_FRAME (R126): runs to its end whatever the line does, leaves IE as it is, and returns RXOUT. -/
def execDecodeFrame (s : State) : Host.Outcome State Fault Refusal :=
  let t := runActions (decodeFrameActions s.cfg) s
  .next (t.giveResult (.code t.rxout))

/-- The time from invocation to sample 0, less the stretch: RX_FIRST_DELAY (R55), or nothing under R131. -/
def firstSampleOffset (c : Params) : Nat :=
  if c.rxStartIsBit0 then 0 else c.rxFirstDelay

/-- How many delays are executed before sample `k` (R55, R131). -/
def delaysBefore (c : Params) (k : Nat) : Nat :=
  if c.rxStartIsBit0 then k else k + 1

/-- s_k of R55: the instant of sample `k` of a call made in state `s`, t0 + RX_FIRST_DELAY + k*TPB + J_k. -/
def sampleInstant (s : State) (k : Nat) : Nat :=
  s.now + firstSampleOffset s.cfg + k * s.cfg.tpb + State.stretchOver (delaysBefore s.cfg k) s

end Sys2Proof.Machine
end

