-- ==== Sys2Proof/Machine/LineSampler.lean ====
section
/-! DEFINITION. READ_PIN, WRITE_PIN, DELAY, START_DETECT (40_line_sampler.md). -/

namespace Sys2Proof.Machine

/-- READ_PIN (R111): the level of the inbound line at this tick. -/
def execReadPin (s : State) : Host.Outcome State Fault Refusal :=
  .next (s.recordRead.giveResult (.level (s.rx s.now)))

/-- WRITE_PIN (R112): the level is on the outbound line at once. It runs for any level and any caller; that a host program
should use it only at boot is a contract of Safety.lean (log entry 11). -/
def execWritePin (v : Level) (s : State) : Host.Outcome State Fault Refusal :=
  .next ((s.drive v).giveResult .none)

/-- DELAY (R113): exact while IE = 0, stretched by a draw while IE = 1. -/
def execDelay (n : Nat) (s : State) : Host.Outcome State Fault Refusal :=
  .next ((s.delay n).giveResult .none)

/-- START_DETECT (R114): READ_PIN() = RX_ACTIVE_LEVEL, a test of the level at one instant. -/
def execStartDetect (s : State) : Host.Outcome State Fault Refusal :=
  .next (s.recordRead.giveResult (.truth (startSeen s.cfg (s.rx s.now))))

end Sys2Proof.Machine
end

