-- ==== Sys2Proof/Machine/Dispatch.lean ====
section
/-! DEFINITION. One arm per operation: which meaning it has. -/

namespace Sys2Proof.Machine

def exec (i : Instr) (s : State) : Host.Outcome State Fault Refusal :=
  match i with
  | .readPin => Sys2Proof.Machine.execReadPin s
  | .writePin v => Sys2Proof.Machine.execWritePin v s
  | .delay n => Sys2Proof.Machine.execDelay n s
  | .startDetect => Sys2Proof.Machine.execStartDetect s
  | .decodeFrame => Sys2Proof.Machine.execDecodeFrame s
  | .sendByte value isLast => Sys2Proof.Machine.execSendByte value isLast s
  | .cmdReset => Sys2Proof.Machine.execCmdReset s
  | .cmdBellOn => Sys2Proof.Machine.execCmdBellOn s
  | .cmdBellOff => Sys2Proof.Machine.execCmdBellOff s
  | .cmdClickOn => Sys2Proof.Machine.execCmdClickOn s
  | .cmdClickOff => Sys2Proof.Machine.execCmdClickOff s
  | .cmdLedUpdate m => Sys2Proof.Machine.execCmdLedUpdate m s
  | .cmdLayoutQuery => Sys2Proof.Machine.execCmdLayoutQuery s

end Sys2Proof.Machine
end

