-- ==== Sys2Proof/Machine/Sequencer.lean ====
section
/-! DEFINITION. The host sequencer (44_host_sequencer.md): explicit host actions, and one iteration of MainLoop (R182). -/

namespace Sys2Proof.Machine

/-- What follows an operation that completed. -/
def andThen (o : Host.Outcome State Fault Refusal) (f : State → State) : Host.Outcome State Fault Refusal :=
  match o with
  | .next t => .next (f t)
  | .fault r => .fault r
  | .refused r => .refused r

/-- The refusal of a call that names no operation (R95, R100). -/
def refusalOf : DecodeError → Refusal
  | .unassignedOpcode op => .unassignedOpcode op
  | .wrongOperands op => .malformedCall op

/-- An explicit call: the operation runs to completion, and an interrupt may be serviced right after its return, before the
caller's next action (R206). -/
def invoke (c : Call) (s : State) : Host.Outcome State Fault Refusal :=
  match decodeCall c with
  | .ok i => andThen (exec i s) (fun t => (t.noteReturn i).interruptPoint)
  | .error e => .refused (refusalOf e)

/-- One host action. -/
def runHostAction (a : HostAction) (s : State) : Host.Outcome State Fault Refusal :=
  match a with
  | .invoke c => invoke c s
  | .writeIE b => .next (State.setIE b s).noteOutside.interruptPoint
  | .work => .next s.surroundingWork.interruptPoint

/-- What MainLoop does next, by the one sample of the line (R182): it receives if the start condition was seen. -/
def chooseBranch (s : State) : State :=
  s.setLoop (if s.host.result = .truth true then .receive else .idle)

/-- MainLoop samples the line (R182). Between a START_DETECT that returned true and the call of DECODE_FRAME nothing stands
but a possible interrupt service (R183). -/
def loopPoll (s : State) : Host.Outcome State Fault Refusal :=
  andThen (exec .startDetect s) (fun t => (chooseBranch (t.noteReturn .startDetect)).interruptPoint)

/-- The Receiving iteration (R182, R186): one frame, discarded and counted during warm-up, else handed on. -/
def loopReceive (s : State) : Host.Outcome State Fault Refusal :=
  andThen (exec .decodeFrame s)
    (fun t => (((t.noteReturn .decodeFrame).acceptCode t.rxout).setLoop .flush).interruptPoint)

/-- A newly available LED byte causes exactly one CMD_LED_UPDATE of LED_MAP of it (R168); without one nothing is sent. -/
def updateLeds (s : State) : Host.Outcome State Fault Refusal :=
  match s.host.newLed with
  | none => .next s
  | some b =>
    andThen (exec (.cmdLedUpdate ((ledMask s.cfg b).setWidth 8)) s.takeLed)
      (State.noteReturn (.cmdLedUpdate ((ledMask s.cfg b).setWidth 8)))

/-- The Idle iteration (R182, R168): USB poll and timer tick take a drawn time; then the LED update, if one is due. -/
def loopIdle (s : State) : Host.Outcome State Fault Refusal :=
  andThen (updateLeds s.surroundingWork) (fun t => (t.setLoop .flush).interruptPoint)

/-- The end of either iteration (R182, R185): the report hand-over takes a drawn time, and the line is polled next. An LED
byte that arrives meanwhile is held for the next Idle iteration (DEDUCED, log entry 27). -/
def loopFlush (s : State) : Host.Outcome State Fault Refusal :=
  .next (s.surroundingWork.setLoop .poll).interruptPoint

/-- MainLoop's next action. -/
def loopStep (s : State) : Host.Outcome State Fault Refusal :=
  match s.host.loop with
  | .poll => loopPoll s
  | .receive => loopReceive s
  | .idle => loopIdle s
  | .flush => loopFlush s

/-- The host's next action: the one it has asked for, else MainLoop's. -/
def hostStep (s : State) : Host.Outcome State Fault Refusal :=
  match s.host.queue with
  | [] => loopStep s
  | a :: rest => runHostAction a (s.setQueue rest)

/-- The host asks for a call before anything else it has asked for. -/
def requestCall (c : Call) (s : State) : State :=
  s.setQueue (.invoke c :: s.host.queue)

end Sys2Proof.Machine
end

