-- ==== Sys2Proof/Machine/Step.lean ====
section
/-! DEFINITION. The step, and how an encoded instruction is placed where the step finds it. -/

namespace Sys2Proof.Machine

/-- One step: one host action or one action of MainLoop, run to completion (R181; log entry 9). -/
def step (s : State) : Host.Outcome State Fault Refusal :=
  hostStep s

/-- The state in which the host's next action is the call whose bits are `w` (log entries 4, 29). -/
def State.withFetchWord (s : State) (nbits w : Nat) : State :=
  requestCall (callOfBits nbits w) s

end Sys2Proof.Machine
end

