-- ==== Sys2Proof/WellFormed.lean ====
section
/-! DEFINITION. Which parameters and which instruction terms are well formed. -/

namespace Sys2Proof

/-- R10: `TPB` is at least 2. -/
def Params.tpbAtLeastTwo (c : Params) : Bool := decide (2 ≤ c.tpb)

/-- R10: `TPB` is even. -/
def Params.tpbEven (c : Params) : Bool := c.tpb % 2 == 0

/-- R10: `KBD_STOP_CELLS` is at least 1. -/
def Params.kbdStopAtLeastOne (c : Params) : Bool := decide (1 ≤ c.kbdStopCells)

/-- R10: `TX_START_LEVEL` is the complement of `TX_IDLE_LEVEL`. -/
def Params.startOpposesIdle (c : Params) : Bool := c.txStartLevel == c.txIdleLevel.inv

/-- R10: `TX_START_CELLS` is at least 1. -/
def Params.startAtLeastOne (c : Params) : Bool := decide (1 ≤ c.txStartCells)

/-- R10: `TX_STOP_LEVEL` is equal to `TX_IDLE_LEVEL`. -/
def Params.stopIsIdle (c : Params) : Bool := c.txStopLevel == c.txIdleLevel

/-- R10: `STOP_SHORT_CELLS` is at least 1. -/
def Params.shortAtLeastOne (c : Params) : Bool := decide (1 ≤ c.stopShortCells)

/-- R10: `STOP_SHORT_CELLS` is less than `STOP_LONG_CELLS`. -/
def Params.shortBelowLong (c : Params) : Bool := decide (c.stopShortCells < c.stopLongCells)

/-- R10: `PIN_RX` and `PIN_TX` are distinct. -/
def Params.pinsDistinct (c : Params) : Bool := decide (c.pinRx ≠ c.pinTx)

/-- Every constraint of R10 holds. -/
def Params.wellFormed (c : Params) : Bool :=
  c.tpbAtLeastTwo && c.tpbEven && c.kbdStopAtLeastOne && c.startOpposesIdle && c.startAtLeastOne && c.stopIsIdle &&
    c.shortAtLeastOne && c.shortBelowLong && c.pinsDistinct

/-- The instruction can be written in the form the table gives it: its operands' types hold R100's widths, and the operand
of CMD_LED_UPDATE fits the seven bits `mmmmmmm` of format CMD2 (R92). A wider `m` can still be passed in a call by name, and
runs (R166 corner case a). -/
def Instr.wellFormed : Instr → Bool
  | .readPin => true
  | .writePin _ => true
  | .delay _ => true
  | .startDetect => true
  | .decodeFrame => true
  | .sendByte _ _ => true
  | .cmdReset => true
  | .cmdBellOn => true
  | .cmdBellOff => true
  | .cmdClickOn => true
  | .cmdClickOff => true
  | .cmdLedUpdate m => decide (m.toNat < 128)
  | .cmdLayoutQuery => true

end Sys2Proof
end

