-- ==== Sys2Proof/Safety.lean ====
section
/-! DEFINITION. The terms claims are stated in: the invariant of the machine, frames and their alignment, the host's contract,
the closed forms of what an operation leaves. -/

namespace Sys2Proof.Machine

/-! ### The invariant -/

/-- A history lists its entries in the order of their ticks, none later than `now` (R36, R64). -/
def historyInOrder (now : Nat) (h : Wave) : Prop :=
  h.Pairwise (fun a b => a.1 ≤ b.1) ∧ ∀ e ∈ h, e.1 ≤ now

/-- The level of the last entry of a history of PORT_TX; `idle` before the first. -/
def lastLevel (idle : Level) (h : Wave) : Level :=
  (h.getLast?.map (·.2)).getD idle

/-- What holds of the machine between two steps. -/
structure Invariant (s : State) : Prop where
  /-- No receive in progress (R29: "Between operations both hold their _IDLE value"). -/
  rxIdle : s.rxph = .idle
  /-- No transmit in progress (R29). -/
  txIdle : s.txph = .idle
  /-- The parameters meet R10's constraints. -/
  cfgLegal : s.cfg.wellFormed = true
  /-- The writes of PORT_TX are in order and in the past (R64). -/
  txInOrder : historyInOrder s.now s.txhist
  /-- The reads of PORT_RX are in order and in the past (R64). -/
  rxInOrder : historyInOrder s.now s.rxhist
  /-- TXLINE is the level last written (R27). -/
  lineIsLast : s.txline = lastLevel s.cfg.txIdleLevel s.txhist
  /-- Every read returned rx at its tick (R64). -/
  readsAreTrue : ∀ e ∈ s.rxhist, e.2 = s.rx e.1
  /-- The warm-up count never passes WARMUP_FRAMES (R186). -/
  warmup : s.host.reportsSeen.toNat ≤ s.cfg.warmupFrames

/-! ### Kinds of operation (R38) -/

/-- The operations that send frames: SEND_BYTE and the CMD_ operations. -/
def transmits : Instr → Bool
  | .readPin => false
  | .writePin _ => false
  | .delay _ => false
  | .startDetect => false
  | .decodeFrame => false
  | .sendByte _ _ => true
  | .cmdReset => true
  | .cmdBellOn => true
  | .cmdBellOff => true
  | .cmdClickOn => true
  | .cmdClickOff => true
  | .cmdLedUpdate _ => true
  | .cmdLayoutQuery => true

/-- The operations that read PORT_RX. -/
def readsLine : Instr → Bool
  | .readPin => true
  | .writePin _ => false
  | .delay _ => false
  | .startDetect => true
  | .decodeFrame => true
  | .sendByte _ _ => false
  | .cmdReset => false
  | .cmdBellOn => false
  | .cmdBellOff => false
  | .cmdClickOn => false
  | .cmdClickOff => false
  | .cmdLedUpdate _ => false
  | .cmdLayoutQuery => false

/-- The actions of an operation, in order: the points between which it can be observed. -/
def operationActions (c : Params) : Instr → List Action
  | .readPin => [State.recordRead]
  | .writePin v => [State.drive v]
  | .delay n => [State.delay n]
  | .startDetect => [State.recordRead]
  | .decodeFrame => decodeFrameActions c
  | .sendByte value isLast => sendByteActions c value isLast
  | .cmdReset => commandActions c Config.resetRow 0
  | .cmdBellOn => commandActions c Config.bellOnRow 0
  | .cmdBellOff => commandActions c Config.bellOffRow 0
  | .cmdClickOn => commandActions c Config.clickOnRow 0
  | .cmdClickOff => commandActions c Config.clickOffRow 0
  | .cmdLedUpdate m => commandActions c Config.ledRow m
  | .cmdLayoutQuery => commandActions c Config.layoutRow 0

/-- The state after the first `n` actions of a list. -/
def stateAt (actions : List Action) (n : Nat) (s : State) : State :=
  runActions (actions.take n) s

/-- The place of a phase of the receiver in the order of R29. -/
def RxPhase.place : RxPhase → Nat
  | .idle => 0
  | .waitFirst => 1
  | .sample k => 2 + k.val
  | .tail => 10

/-- The place of a phase of the transmitter in the order of R29. -/
def TxPhase.place : TxPhase → Nat
  | .idle => 0
  | .start => 1
  | .data i => 2 + i.val
  | .stop => 9

/-! ### Inbound frames (R55, R56, R81) -/

/-- The level of an inbound data cell that carries a logical bit (R12, R81). -/
def inboundLevel (c : Params) (b : Bool) : Level :=
  if c.rxInvert then (Level.ofBit b).inv else Level.ofBit b

/-- An ideal inbound frame of byte `b` with start edge at `te` on a line (R81): idle just before the edge, the start cell,
eight data cells, then idle for KBD_STOP_CELLS. -/
structure IdealFrame (c : Params) (line : Nat → Level) (te : Nat) (b : Byte) : Prop where
  before : ∀ t, t + 1 = te → line t = c.rxIdleLevel
  start : ∀ t, te ≤ t → t < te + c.tpb → line t = c.rxActiveLevel
  data : ∀ k : Fin 8, ∀ t, te + (k.val + 1) * c.tpb ≤ t → t < te + (k.val + 2) * c.tpb →
    line t = inboundLevel c (b.getLsbD k.val)
  after : ∀ t, te + 9 * c.tpb ≤ t → t < te + (9 + c.kbdStopCells) * c.tpb → line t = c.rxIdleLevel

/-- The alignment condition of R56: every sampling instant falls in its data cell. -/
def Aligned (s : State) (te : Nat) : Prop :=
  ∀ k, k < 8 → te + (k + 1) * s.cfg.tpb ≤ sampleInstant s k ∧ sampleInstant s k < te + (k + 2) * s.cfg.tpb

/-- The levels that a DECODE_FRAME called in state `s` reads, in order. -/
def sampledLevels (s : State) : List Level :=
  [s.rx (sampleInstant s 0), s.rx (sampleInstant s 1), s.rx (sampleInstant s 2), s.rx (sampleInstant s 3),
    s.rx (sampleInstant s 4), s.rx (sampleInstant s 5), s.rx (sampleInstant s 6), s.rx (sampleInstant s 7)]

/-- The entry of the ninth read, where R131 applies and the parameter has it made (R60; log entry 12). -/
def ninthRead (s : State) : Wave :=
  if s.cfg.rxStartIsBit0 && s.cfg.bit0NinthRead then [(s.now, s.rx s.now)] else []

/-- The entries of the eight samples, in order. -/
def sampledReads (s : State) : Wave :=
  [(sampleInstant s 0, s.rx (sampleInstant s 0)), (sampleInstant s 1, s.rx (sampleInstant s 1)),
    (sampleInstant s 2, s.rx (sampleInstant s 2)), (sampleInstant s 3, s.rx (sampleInstant s 3)),
    (sampleInstant s 4, s.rx (sampleInstant s 4)), (sampleInstant s 5, s.rx (sampleInstant s 5)),
    (sampleInstant s 6, s.rx (sampleInstant s 6)), (sampleInstant s 7, s.rx (sampleInstant s 7))]

/-- How many delays a DECODE_FRAME executes: nine, or eight under R131. -/
def decodeDelays (c : Params) : Nat := delaysBefore c 7 + 1

/-- None of the next `n` interrupt points takes longer than IRQ_JITTER_MAX (R10, R204): a premise of claims. -/
def JitterBounded (n : Nat) (s : State) : Prop :=
  ∀ k, k < n → (s.env.irqAt k).ticks ≤ s.cfg.irqJitterMax

/-- The start edge at `te` is at most POLL_LATENCY_MAX ticks past (R10, R187): a premise of claims. -/
def LatencyBounded (s : State) (te : Nat) : Prop :=
  te ≤ s.now ∧ s.now - te ≤ s.cfg.pollLatencyMax

/-! ### What an operation leaves -/

/-- The state after a DECODE_FRAME called in state `s` (R126, R127, R129, R131). -/
def State.afterDecode (s : State) : State :=
  { s with
    rxsr := assemble s.cfg 0 (sampledLevels s)
    rxcnt := 8
    rxout := assemble s.cfg 0 (sampledLevels s)
    rxph := .idle
    pend := (State.interruptPoints (decodeDelays s.cfg) s).pend
    now := s.now + firstSampleOffset s.cfg + 7 * s.cfg.tpb + s.cfg.rxTailDelay + State.stretchOver (decodeDelays s.cfg) s
    rxhist := s.rxhist ++ (ninthRead s ++ sampledReads s)
    host := { s.host with result := .code (assemble s.cfg 0 (sampledLevels s)) }
    env := s.env.skipIrqs (decodeDelays s.cfg) }

/-- The requests that arrive at the next `n` interrupt points. -/
def arrivalsOver (e : Environment) (n : Nat) : Nat :=
  ((List.range n).map (fun k => (e.irqAt k).arrivals)).sum

/-- The state after one SEND_BYTE called in state `s` (R142, R143, R146, R149): nine delays, all exact, whose requests are
held. -/
def State.afterFrame (value : Byte) (isLast : Bool) (s : State) : State :=
  { s with
    txsr := value
    txcnt := 7
    txlast := isLast
    txline := s.cfg.txStopLevel
    txph := .idle
    ie := true
    pend := s.pend + arrivalsOver s.env 9
    now := s.now + sendByteTicks s.cfg isLast
    txhist := s.txhist ++ frameWrites s.cfg s.now value
    host := { s.host with result := .none }
    env := s.env.skipIrqs 9 }

/-! ### The host's contract (R112, R183) -/

/-- Whether the host may invoke an operation in this state within its contract: DECODE_FRAME right after a START_DETECT that
returned true, with nothing of the thread between (R183); WRITE_PIN by itself only to establish the idle level at boot (R112
corner case c, R236; log entry 28). Outside the contract the operations still run (R132 case d; log entry 11). -/
def State.contractAllows (s : State) : Instr → Bool
  | .readPin => true
  | .writePin v => decide (v = s.cfg.txIdleLevel ∧ s.host.point = .boot)
  | .delay _ => true
  | .startDetect => true
  | .decodeFrame => decide (s.host.point = .returned .startDetect ∧ s.host.result = .truth true)
  | .sendByte _ _ => true
  | .cmdReset => true
  | .cmdBellOn => true
  | .cmdBellOff => true
  | .cmdClickOn => true
  | .cmdClickOff => true
  | .cmdLedUpdate _ => true
  | .cmdLayoutQuery => true

/-! ### Nominal time (R255) -/

/-- A number of ticks in tenths of a microsecond, at T_BIT_US to the bit period: nominal, no rule depends on it. -/
def nominalTenthsUs (c : Params) (ticks : Nat) : Nat :=
  ticks * (Config.bitPeriodUs * 10) / c.tpb

end Sys2Proof.Machine
end

