-- ==== Sys2Proof/Certificates/Slice0/Obligations.lean ====
section
/-! DEFINITION. The statements for the provers. Each docstring names the rules of spec/ it formalises; where a clause rests on
the model's own choice it names the log entry. -/

open Sys2Proof Sys2Proof.Machine

/-! ### Reset -/

/-- R40: the values the table gives. TXLINE is at TX_IDLE_LEVEL = L, both engines rest, nothing is pending, the clock is 0. -/
def Obligations.ResetRestsAndIdlesLow : Prop :=
  State.reset.rxph = .idle ∧ State.reset.txph = .idle ∧ State.reset.txline = .low ∧ State.reset.pend = 0 ∧
    State.reset.now = 0

/-- R10, R40: for any parameters that meet R10's constraints, the state in which the block is first used meets the
invariant of the machine. The histories start empty and the warm-up count at 0 (log entries 16, 25). -/
def Obligations.ResetMeetsInvariant : Prop :=
  (∀ c : Params, c.wellFormed = true → Invariant (State.resetWith c)) ∧ Invariant State.reset

/-! ### LineSampler -/

/-- R111: READ_PIN completes and returns rx(now); it writes nothing, but for the observation history that the rule allows
(the model keeps it: log entry 16) and the result it returns (where it stands is log entry 15). A second read at the same
tick returns the same level, and driving PORT_TX does not affect the read. -/
def Obligations.ReadPinReturnsLineLevel : Prop :=
  ∀ s : State, ∃ t : State, exec .readPin s = .next t ∧
    t = { s with
      rxhist := s.rxhist ++ [(s.now, s.rx s.now)]
      host := { s.host with result := .level (s.rx s.now) } } ∧
    (∃ u, exec .readPin t = .next u ∧ u.host.result = t.host.result) ∧
    ∀ v, ∃ u, exec .readPin (s.drive v) = .next u ∧ u.host.result = t.host.result

/-- R112: WRITE_PIN(v) sets TXLINE, and nothing else of R20; it runs for either level, inside the host's contract or outside
it (log entry 11). -/
def Obligations.WritePinSetsTxline : Prop :=
  ∀ (v : Level) (s : State), exec (.writePin v) s = .next { s with
    txline := v
    txhist := s.txhist ++ [(s.now, v)]
    host := { s.host with result := .none } }

/-- R112, R15: after WRITE_PIN(v) at tick now, tx(t) = v for every t from now on, and tx is as it was before now. -/
def Obligations.WritePinTakesEffectAtItsTick : Prop :=
  ∀ (v : Level) (s : State), ∃ t, exec (.writePin v) s = .next t ∧
    (∀ u, s.now ≤ u → t.tx u = v) ∧ (∀ u, u < s.now → t.tx u = s.tx u)

/-- R62, R112 corner case a: writing the level PORT_TX already has leaves tx unchanged at every tick. -/
def Obligations.RewritingTheLevelMakesNoEdge : Prop :=
  ∀ s : State, Invariant s → ∃ t, exec (.writePin s.txline) s = .next t ∧ t.txline = s.txline ∧ ∀ u, t.tx u = s.tx u

/-- R27: under the invariant, tx(t) is TXLINE for every tick from now on. -/
def Obligations.LineHoldsLastWrittenLevel : Prop :=
  ∀ s : State, Invariant s → ∀ u, s.now ≤ u → s.tx u = s.txline

/-- R113, R205: with IE = 0 the delay is exact. Requests that arrive meanwhile are held in PEND (log entry 3). -/
def Obligations.DelayIsExactWhileMasked : Prop :=
  ∀ (n : Nat) (s : State), s.ie = false → exec (.delay n) s = .next { s with
    now := s.now + n
    pend := s.pend + (s.env.irqAt 0).arrivals
    env := s.env.skipIrqs 1
    host := { s.host with result := .none } }

/-- R113: with IE = 1 the delay is stretched, never shortened, and of R20's items only now and PEND change. That PEND
loses the serviced requests and gains none is the model's choice (log entries 3 and 21); so are the draws and the place of
the result (log entries 3, 15). -/
def Obligations.DelayIsOnlyStretchedWhileEnabled : Prop :=
  ∀ (n : Nat) (s : State), s.ie = true → ∃ j, exec (.delay n) s = .next { s with
    now := s.now + n + j
    pend := s.pend - (s.env.irqAt 0).serviced
    env := s.env.skipIrqs 1
    host := { s.host with result := .none } }

/-- R113: with IE = 1 every stretch j is possible: some environment draws it. -/
def Obligations.EveryStretchCanBeDrawn : Prop :=
  ∀ (n j : Nat) (s : State), s.ie = true → ∃ (e : Environment) (t : State),
    e.rxWave = s.env.rxWave ∧ exec (.delay n) { s with env := e } = .next t ∧ t.now = s.now + n + j

/-- R114: START_DETECT is true exactly when the line is at RX_ACTIVE_LEVEL at this instant; it writes nothing else. -/
def Obligations.StartDetectTestsActiveLevel : Prop :=
  ∀ s : State, exec .startDetect s = .next { s with
    rxhist := s.rxhist ++ [(s.now, s.rx s.now)]
    host := { s.host with result := .truth (decide (s.rx s.now = s.cfg.rxActiveLevel)) } }

/-! ### FrameDecoder -/

/-- R126, R131, R129, R38: DECODE_FRAME completes for both readings of the start level, every parameter and every line, and
this is all it leaves: the eight levels read at the sampling instants, assembled; RXCNT = 8; RXPH idle; IE and the whole
transmitter as they were. Where RX_START_IS_BIT0 is true (R131) the reads are R60's nine or the eight of R131's pseudocode, for
either value of bit0NinthRead, and four things are the model's choice, log entry 12: where the ninth read stands, that sample 0
is the level the operation reads itself, that RX_INVERT is tested (R131 writes inv), and RXCNT. -/
def Obligations.DecodeFrameCompletes : Prop :=
  ∀ s : State, exec .decodeFrame s = .next s.afterDecode

/-- R127: DECODE_FRAME takes eight samples, bit k of RXOUT is the complement of the k-th level sampled, and RXSR's value on
entry does not reach the result. It makes no other read at the spec's value of RX_START_IS_BIT0. Where that is true R60 counts
nine reads and R131 eight: the statement holds for both, and that the ninth stands before the eight and is no sample is the
model's choice, log entry 12. -/
def Obligations.ReceivedByteIsComplementOfLevelsRead : Prop :=
  ∀ s : State, s.cfg.rxInvert = true → ∃ (t : State) (reads : Wave),
    exec .decodeFrame s = .next t ∧ t.rxhist = s.rxhist ++ (ninthRead s ++ reads) ∧ reads.length = 8 ∧
    (ninthRead s).length = (if s.cfg.rxStartIsBit0 = true ∧ s.cfg.bit0NinthRead = true then 1 else 0) ∧
    (∀ (k : Nat) (e : Nat × Level), reads[k]? = some e → t.rxout.getLsbD k = e.2.inv.toBit) ∧
    ∀ r : BitVec 8, ∃ u, exec .decodeFrame { s with rxsr := r } = .next u ∧ u.rxout = t.rxout

/-- R37, R21, R22: nothing of a former receive reaches the next one. Where RX_START_IS_BIT0 is true, that RXCNT is cleared is
log entry 12. -/
def Obligations.ReceiverKeepsNothingBetweenCalls : Prop :=
  ∀ (s : State) (sr : BitVec 8) (cnt : BitVec 4) (out : BitVec 8),
    ∃ t, exec .decodeFrame s = .next t ∧ exec .decodeFrame { s with rxsr := sr, rxcnt := cnt, rxout := out } = .next t

/-- R87, R90: shifting eight levels in, least significant first, puts the logical bit of the k-th at place k, whatever the
register held. -/
def Obligations.AssemblyPlacesEachBit : Prop :=
  ∀ (c : Params) (r : Byte) (ls : List Level), ls.length = 8 →
    ∀ (k : Nat) (l : Level), ls[k]? = some l → (assemble c r ls).getLsbD k = logicalBit c l

/-- R55: the reads happen at t0 + RX_FIRST_DELAY + k*TPB + J_k, with J non-decreasing, and zero when IE = 0. -/
def Obligations.SamplesFallAtTheStatedInstants : Prop :=
  ∀ s : State, s.cfg.rxStartIsBit0 = false → ∃ (t : State) (j : Nat → Nat),
    exec .decodeFrame s = .next t ∧ (∀ k, j k ≤ j (k + 1)) ∧ (s.ie = false → ∀ k, j k = 0) ∧
    t.rxhist = s.rxhist ++ (List.range 8).map (fun k =>
      (s.now + s.cfg.rxFirstDelay + k * s.cfg.tpb + j k, s.rx (s.now + s.cfg.rxFirstDelay + k * s.cfg.tpb + j k)))

/-- R129: at the default delays a receive takes nine bit periods and the stretch of its nine delays. -/
def Obligations.ReceiveTakesNineBitPeriodsAndStretch : Prop :=
  ∀ s : State, s.cfg.wellFormed = true → s.cfg.rxStartIsBit0 = false → s.cfg.rxFirstDelay = 3 * s.cfg.tpb / 2 →
    s.cfg.rxTailDelay = s.cfg.tpb / 2 →
    ∃ t, exec .decodeFrame s = .next t ∧ t.now = s.now + 9 * s.cfg.tpb + State.stretchOver 9 s ∧
      (s.ie = false → t.now = s.now + 9 * s.cfg.tpb)

/-- R56: at the default phase a call is aligned exactly when the latency and the stretch up to the last sample stay under
half a bit period. The phase is the spec's decision D4. -/
def Obligations.AlignedIffLateByLessThanHalfABit : Prop :=
  ∀ (s : State) (te : Nat), s.cfg.wellFormed = true → s.cfg.rxStartIsBit0 = false →
    s.cfg.rxFirstDelay = 3 * s.cfg.tpb / 2 → te ≤ s.now →
    (Aligned s te ↔ (s.now - te) + State.stretchOver 8 s < s.cfg.tpb / 2)

/-- R128: an aligned call on an ideal frame of byte b returns b. That it says so of RX_START_IS_BIT0 = true as well rests
on log entry 12. -/
def Obligations.AlignedFrameIsReceived : Prop :=
  ∀ (s : State) (te : Nat) (b : Byte), IdealFrame s.cfg s.rx te b → Aligned s te →
    ∃ t, exec .decodeFrame s = .next t ∧ t.rxout = b ∧ t.host.result = .code b

/-- R56, R128, R204, R187: at the default phase (the spec's decision D4), where POLL_LATENCY_MAX and eight times
IRQ_JITTER_MAX together stay under half a bit period, a call that keeps to both bounds receives the byte of an ideal
frame. The factor is eight because the model has one interrupt point in each of the eight delays before the last sample
(log entry 10); all that is serviced there is that point's one draw. -/
def Obligations.BoundedDisturbanceIsReceived : Prop :=
  ∀ (s : State) (te : Nat) (b : Byte), s.cfg.wellFormed = true → s.cfg.rxStartIsBit0 = false →
    s.cfg.rxFirstDelay = 3 * s.cfg.tpb / 2 → IdealFrame s.cfg s.rx te b → LatencyBounded s te → JitterBounded 8 s →
    s.cfg.pollLatencyMax + 8 * s.cfg.irqJitterMax < s.cfg.tpb / 2 →
    ∃ t, exec .decodeFrame s = .next t ∧ t.rxout = b ∧ t.host.result = .code b

/-- R132 cases a, b, g: a line at H during all samples gives 0x00, a line at L gives 0xFF, and the operation completes. That
the samples are the same eight where RX_START_IS_BIT0 is true is log entry 12. -/
def Obligations.StuckLineIsReceivedAsAllEqualBits : Prop :=
  ∀ s : State, s.cfg.rxInvert = true →
    ((∀ k, k < 8 → s.rx (sampleInstant s k) = .high) → ∃ t, exec .decodeFrame s = .next t ∧ t.rxout = 0x00) ∧
    ((∀ k, k < 8 → s.rx (sampleInstant s k) = .low) → ∃ t, exec .decodeFrame s = .next t ∧ t.rxout = 0xFF)

/-- R205, R30: at every point of a receive IE is as it was at its start; the transmitter and the outbound line are untouched
(R38). -/
def Obligations.ReceiveNeverTouchesTheMask : Prop :=
  ∀ (s : State) (n : Nat), let u := stateAt (decodeFrameActions s.cfg) n s
    u.ie = s.ie ∧ u.txline = s.txline ∧ u.txhist = s.txhist ∧ u.txph = s.txph ∧ u.txsr = s.txsr ∧ u.txcnt = s.txcnt ∧
      u.txlast = s.txlast

/-! ### Byte transmitter -/

/-- R142, R38: SEND_BYTE completes for every value and either flag, and this is all it leaves: the nine writes of the
frame, TXSR = value, TXCNT = 7, TXLAST = isLast, TXLINE at the stop level, TXPH idle, IE = 1, the clock after the frame, the
receiver as it was. Requests that arrive during the frame are held in PEND (log entry 3). -/
def Obligations.SendByteCompletes : Prop :=
  ∀ (value : Byte) (isLast : Bool) (s : State), exec (.sendByte value isLast) s = .next (s.afterFrame value isLast)

/-- R143, R84, R145: at the spec's line values the outbound line shows the frame: H for one bit period, seven inverted data
cells, L for the stop pattern and after it; and it is as it was before the call. -/
def Obligations.SendByteDrivesTheFrame : Prop :=
  ∀ (value : Byte) (isLast : Bool) (s : State), s.cfg.txInvert = true → s.cfg.txStartCells = 1 →
    s.cfg.txStartLevel = .high → s.cfg.txStopLevel = .low →
    ∃ t, exec (.sendByte value isLast) s = .next t ∧ t.txline = .low ∧
      t.now = s.now + (8 + s.cfg.stopCells isLast) * s.cfg.tpb ∧
      (∀ u, u < s.now → t.tx u = s.tx u) ∧
      (∀ u, s.now ≤ u → u < s.now + s.cfg.tpb → t.tx u = .high) ∧
      (∀ (i : Fin 7) (u : Nat), s.now + (i.val + 1) * s.cfg.tpb ≤ u → u < s.now + (i.val + 2) * s.cfg.tpb →
        t.tx u = (Level.ofBit (value.getLsbD i.val)).inv) ∧
      (∀ u, s.now + 8 * s.cfg.tpb ≤ u → t.tx u = .low)

/-- R16, R143: the two levels of model agree on SEND_BYTE. For every parameter, the line shows the cells of the sample
level's list, one bit period each, and they fill the call from its first tick to its return. -/
def Obligations.LineShowsTheCellList : Prop :=
  ∀ (value : Byte) (isLast : Bool) (s : State), ∃ t, exec (.sendByte value isLast) s = .next t ∧
    t.now = s.now + (frameCells s.cfg value isLast).length * s.cfg.tpb ∧
    ∀ (j : Nat) (l : Level), (frameCells s.cfg value isLast)[j]? = some l →
      ∀ u, s.now + j * s.cfg.tpb ≤ u → u < s.now + (j + 1) * s.cfg.tpb → t.tx u = l

/-- R16, R127: the two levels of model agree on DECODE_FRAME. The byte is the sample level's function of the eight levels
sampled. That this holds of either value of RX_INVERT where RX_START_IS_BIT0 is true (R131 writes inv), and that the ninth read
of R60 there, if it is made, is none of the eight, is the model's choice, log entry 12. -/
def Obligations.ByteIsTheSampleLevelFunction : Prop :=
  ∀ (s : State) (r : Byte), ∃ (t : State) (reads : Wave), exec .decodeFrame s = .next t ∧
    t.rxhist = s.rxhist ++ (ninthRead s ++ reads) ∧ reads.length = 8 ∧ t.rxout = assemble s.cfg r (reads.map (·.2)) ∧
    t.host.result = .code t.rxout

/-- R146: IE is 0 from the entry on, whatever it was, and 1 at the return, whatever it was: the release restores nothing. -/
def Obligations.SendByteMasksAndReleasesUnconditionally : Prop :=
  ∀ (value : Byte) (isLast : Bool) (s : State),
    (∀ n, 0 < n → n < (sendByteActions s.cfg value isLast).length →
      (stateAt (sendByteActions s.cfg value isLast) n s).ie = false) ∧
    ∃ t, exec (.sendByte value isLast) s = .next t ∧ t.ie = true

/-- R88: the seven data cells are the complements of value[0] to value[6] in that order, and value[7] is not driven: value and
value | 0x80 give the same next state but for TXSR. -/
def Obligations.SendByteDrivesSevenBitsInOrder : Prop :=
  ∀ (value : Byte) (isLast : Bool) (s : State), s.cfg.txInvert = true → ∃ (t : State) (start stop : Nat × Level) (data : Wave),
    exec (.sendByte value isLast) s = .next t ∧ t.txhist = s.txhist ++ start :: data ++ [stop] ∧
    data.map (·.2) = (List.range 7).map (fun i => (Level.ofBit (value.getLsbD i)).inv) ∧
    exec (.sendByte (value ||| 0x80) isLast) s = .next { t with txsr := value ||| 0x80 } ∧
    exec (.sendByte (value &&& 0x7F) isLast) s = .next { t with txsr := value &&& 0x7F }

/-- R149: the exact duration, 9 or 10 bit periods at the defaults; for all of that time interrupts are off, held requests are
not serviced, PORT_RX is not read and MainLoop does not move. -/
def Obligations.SendByteTakesItsFrameAndNothingElseRuns : Prop :=
  ∀ (value : Byte) (isLast : Bool) (s : State), ∃ t, exec (.sendByte value isLast) s = .next t ∧
    t.now = s.now + (s.cfg.txStartCells + 7 + (if isLast then s.cfg.stopLongCells else s.cfg.stopShortCells)) * s.cfg.tpb ∧
    (s.cfg.txStartCells = 1 → s.cfg.stopShortCells = 1 → s.cfg.stopLongCells = 2 →
      t.now = s.now + (if isLast then 10 else 9) * s.cfg.tpb) ∧
    ∀ n, 0 < n → n < (sendByteActions s.cfg value isLast).length →
      let u := stateAt (sendByteActions s.cfg value isLast) n s
      u.ie = false ∧ s.pend ≤ u.pend ∧ u.rxhist = s.rxhist ∧ u.host.loop = s.host.loop ∧ u.host.queue = s.host.queue

/-- R24 to R26, R40: what the transmitter's own registers hold on entry reaches nothing. -/
def Obligations.TransmitterKeepsNothingBetweenCalls : Prop :=
  ∀ (value : Byte) (isLast : Bool) (s : State) (sr : BitVec 8) (cnt : BitVec 3) (last b : Bool),
    ∃ t, exec (.sendByte value isLast) s = .next t ∧
      exec (.sendByte value isLast) { s with txsr := sr, txcnt := cnt, txlast := last, ie := b } = .next t

/-! ### Native commands -/

/-- R161 to R165, R167: each one-byte command completes, and leaves what SEND_BYTE of its opcode with the long stop leaves. -/
def Obligations.OneByteCommandsSendTheirOpcode : Prop :=
  ∀ s : State,
    exec .cmdReset s = .next (s.afterFrame 0x01 true) ∧ exec .cmdBellOn s = .next (s.afterFrame 0x02 true) ∧
    exec .cmdBellOff s = .next (s.afterFrame 0x03 true) ∧ exec .cmdClickOn s = .next (s.afterFrame 0x0A true) ∧
    exec .cmdClickOff s = .next (s.afterFrame 0x0B true) ∧ exec .cmdLayoutQuery s = .next (s.afterFrame 0x0F true)

/-- R166, R148: CMD_LED_UPDATE completes, and leaves what two SEND_BYTE calls leave, the opcode with the short stop and the
bitmask with the long one, with one point between them at which a held interrupt may be serviced. -/
def Obligations.LedUpdateSendsOpcodeThenBitmask : Prop :=
  ∀ (m : Byte) (s : State),
    exec (.cmdLedUpdate m) s = .next ((s.afterFrame 0x0E false).interruptPoint.afterFrame m true)

/-- R166, R148: the second frame starts a gap g after the short stop. The gap is the service at the point between the frames,
where IE is 1: the stretch of the state that the first frame leaves. It is 0 when no request is held and none arrives just
then; the whole takes both frames and the gap. -/
def Obligations.LedUpdateGapIsTheHeldService : Prop :=
  ∀ (m : Byte) (s : State), let g := (s.afterFrame 0x0E false).stretch
    ∃ t : State, exec (.cmdLedUpdate m) s = .next t ∧
    t.txhist = s.txhist ++ frameWrites s.cfg s.now 0x0E ++
      frameWrites s.cfg (s.now + sendByteTicks s.cfg false + g) m ∧
    t.now = s.now + sendByteTicks s.cfg false + g + sendByteTicks s.cfg true ∧
    (s.pend + arrivalsOver s.env 9 = 0 → (s.env.irqAt 9).arrivals = 0 → g = 0)

/-- R166: during CMD_LED_UPDATE IE is 0, then 1 for the gap, then 0, then 1. -/
def Obligations.LedUpdateMasksEachFrameByItself : Prop :=
  ∀ (m : Byte) (s : State) (n : Nat),
    let actions := operationActions s.cfg (.cmdLedUpdate m)
    let first := (sendByteActions s.cfg 0x0E false).length
    (0 < n → n < first → (stateAt actions n s).ie = false) ∧
    (first ≤ n → n ≤ first + 1 → (stateAt actions n s).ie = true) ∧
    (first + 1 < n → n < actions.length → (stateAt actions n s).ie = false) ∧
    (actions.length ≤ n → (stateAt actions n s).ie = true)

/-- R101: the pseudo-operations are their expansions. Between the two calls of CMD_LED_UPDATE stands R148's gap. -/
def Obligations.PseudoOperationsExpand : Prop :=
  ∀ s : State,
    exec .cmdReset s = exec (.sendByte 0x01 true) s ∧ exec .cmdBellOn s = exec (.sendByte 0x02 true) s ∧
    exec .cmdBellOff s = exec (.sendByte 0x03 true) s ∧ exec .cmdClickOn s = exec (.sendByte 0x0A true) s ∧
    exec .cmdClickOff s = exec (.sendByte 0x0B true) s ∧ exec .cmdLayoutQuery s = exec (.sendByte 0x0F true) s ∧
    (∀ m, ∃ t, exec (.sendByte 0x0E false) s = .next t ∧
      exec (.cmdLedUpdate m) s = exec (.sendByte m true) t.interruptPoint) ∧
    ∃ t l, exec .readPin s = .next t ∧ t.host.result = .level l ∧
      exec .startDetect s = .next { t with host := { t.host with result := .truth (decide (l = s.cfg.rxActiveLevel)) } }

/-! ### Every operation -/

/-- R200: no operation can fault or be refused, for any operand, any state and any line; and no fault exists. -/
def Obligations.NoOperationFails : Prop :=
  (∀ (i : Instr) (s : State), ∃ t, exec i s = .next t) ∧ ∀ (s : State) (f : Fault), step s ≠ .fault f

/-- R30: only the operations that send frames write IE, and they leave it 1; every other leaves it as it was. -/
def Obligations.OnlyTransmitsWriteIE : Prop :=
  ∀ (i : Instr) (s : State), ∃ t, exec i s = .next t ∧ t.ie = if transmits i then true else s.ie

/-- R38, R32: the access matrix. What an operation does not list as written it leaves as it was: the receiver's registers,
the transmitter's registers, the outbound line, IE, the reads of PORT_RX, the clock; and no operation changes the parameters,
the host's requests, MainLoop's state or the inbound line. -/
def Obligations.OperationsKeepToTheAccessMatrix : Prop :=
  ∀ (i : Instr) (s : State), ∃ t, exec i s = .next t ∧
    (i ≠ .decodeFrame → t.rxsr = s.rxsr ∧ t.rxcnt = s.rxcnt ∧ t.rxout = s.rxout ∧ t.rxph = s.rxph) ∧
    (transmits i = false → t.txsr = s.txsr ∧ t.txcnt = s.txcnt ∧ t.txlast = s.txlast ∧ t.txph = s.txph) ∧
    (transmits i = false → (∀ v, i ≠ .writePin v) → t.txline = s.txline ∧ t.txhist = s.txhist) ∧
    (transmits i = false → t.ie = s.ie) ∧
    (readsLine i = false → t.rxhist = s.rxhist) ∧
    (i = .readPin ∨ i = .startDetect ∨ (∃ v, i = .writePin v) → t.now = s.now ∧ t.pend = s.pend ∧ t.env = s.env) ∧
    t.cfg = s.cfg ∧ t.host.queue = s.host.queue ∧ t.host.loop = s.host.loop ∧ t.host.reportsSeen = s.host.reportsSeen ∧
    t.host.delivered = s.host.delivered ∧ t.host.newLed = s.host.newLed ∧ t.host.point = s.host.point ∧
    t.env.rxWave = s.env.rxWave ∧ t.env.work = s.env.work

/-- R29, R181: at every point inside every operation at most one engine is away from its idle phase, and at its end neither
is. -/
def Obligations.AtMostOneEngineIsBusy : Prop :=
  ∀ (i : Instr) (s : State), s.rxph = .idle → s.txph = .idle →
    (∀ n, (stateAt (operationActions s.cfg i) n s).rxph = .idle ∨ (stateAt (operationActions s.cfg i) n s).txph = .idle) ∧
    ∃ t, exec i s = .next t ∧ t.rxph = .idle ∧ t.txph = .idle

/-- R29: in one DECODE_FRAME and in one SEND_BYTE the phases only advance, in the order listed, until the return. -/
def Obligations.PhasesOnlyAdvance : Prop :=
  ∀ (s : State) (value : Byte) (isLast : Bool) (n m : Nat), s.rxph = .idle → s.txph = .idle → n ≤ m →
    (m < (decodeFrameActions s.cfg).length →
      (stateAt (decodeFrameActions s.cfg) n s).rxph.place ≤ (stateAt (decodeFrameActions s.cfg) m s).rxph.place) ∧
    (m + 1 < (sendByteActions s.cfg value isLast).length →
      (stateAt (sendByteActions s.cfg value isLast) n s).txph.place ≤
        (stateAt (sendByteActions s.cfg value isLast) m s).txph.place)

/-- R204, R205, R206, R208, R209, R148: an interrupt point changes nothing but the clock, the requests held and the
environment's draws; with IE = 0 no time passes and arriving requests are held; with IE = 1 no time passes when none is held
and none arrives, and no request is added. That PEND is a count to which arrivals are added, and the draws, are log entry 3;
that none is added while IE = 1 is log entry 21. -/
def Obligations.InterruptServiceIsTransparent : Prop :=
  ∀ s : State, ∃ (j p : Nat), s.interruptPoint = { s with now := s.now + j, pend := p, env := s.env.skipIrqs 1 } ∧
    (s.ie = false → j = 0 ∧ p = s.pend + (s.env.irqAt 0).arrivals) ∧
    (s.ie = true → p ≤ s.pend ∧ (s.pend = 0 → (s.env.irqAt 0).arrivals = 0 → j = 0))

/-! ### Decoding -/

/-- R93, R100, R166 corner case a: decoding the encoding of a well-formed instruction gives it back, every operand at every
value; calling any instruction by its name gives it back, well formed or not (CMD_LED_UPDATE with bit 7 of m set among them);
and a call by name that decodes is the call by name of what it decodes to. The form of a call by name is log entry 14, that
of a native call log entry 13. -/
def Obligations.DecodeOfEncodeIsTheInstruction : Prop :=
  (∀ i : Instr, i.wellFormed = true → decodeCall (encode i) = .ok i) ∧
    (∀ i : Instr, decodeCall i.namedCall = .ok i) ∧
    ∀ (op : Mnemonic) (operands : List Nat) (i : Instr), decodeCall (.named op operands) = .ok i →
      i.namedCall = .named op operands

/-- R93, R95, R102: a native opcode selects a command exactly when its low seven bits are one of the seven of the table, the
command is the one whose encoding has that opcode, and the 121 others are rejected by name. That bit 7 of the opcode byte is
ignored, and that the others are rejected by name, is log entry 13. -/
def Obligations.NativeOpcodesAreTheSevenOfTheTable : Prop :=
  ∀ opcode operand : Byte,
    ((∃ i, decodeCall (.native opcode operand) = .ok i) ↔
      opcode &&& 0x7F ∈ Config.commandTable.map CommandRow.opcode) ∧
    (∀ i, decodeCall (.native opcode operand) = .ok i →
      (encodeBytes i).head? = some (opcode &&& 0x7F) ∧ transmits i = true ∧
      ∀ b, (encodeBytes i)[1]? = some b → b = operand &&& 0x7F) ∧
    (opcode &&& 0x7F ∉ Config.commandTable.map CommandRow.opcode →
      decodeCall (.native opcode operand) = .error (.unassignedOpcode (opcode.setWidth 7)))

/-- R93: the seven words of the table, written out, and three words that are none of them. How the two bytes of
CMD_LED_UPDATE are packed into one number is the model's choice, log entry 29. -/
def Obligations.TableWordsDecode : Prop :=
  decodeTableWord 8 0x01 = some .cmdReset ∧ decodeTableWord 8 0x02 = some .cmdBellOn ∧
    decodeTableWord 8 0x03 = some .cmdBellOff ∧ decodeTableWord 8 0x0A = some .cmdClickOn ∧
    decodeTableWord 8 0x0B = some .cmdClickOff ∧ decodeTableWord 16 0x550E = some (.cmdLedUpdate 0x55) ∧
    decodeTableWord 8 0x0F = some .cmdLayoutQuery ∧ decodeTableWord 8 0x00 = none ∧ decodeTableWord 8 0x04 = none ∧
    decodeTableWord 8 0x10 = none

/-! ### Steps -/

/-- R181, R206: when the host's next request is a call that decodes to an operation, the step is that operation, run to its
end, and then one point at which an interrupt may be serviced before the caller's next action. The host side also notes that
the operation has returned (log entry 28). -/
def Obligations.StepRunsTheRequestedOperation : Prop :=
  ∀ (s t : State) (c : Call) (rest : List HostAction) (i : Instr), s.host.queue = .invoke c :: rest →
    decodeCall c = .ok i → exec i { s with host := { s.host with queue := rest } } = .next t →
    step s = .next (t.noteReturn i).interruptPoint

/-- R93, R181: the step runs the instruction whose word is placed where it takes the host's next request (the form of the
request is log entry 4, its packing into a number log entry 29, the note of the return log entry 28). -/
def Obligations.StepRunsTheFetchedWord : Prop :=
  ∀ (s t : State) (nbits w : Nat) (i : Instr), decodeTableWord nbits w = some i → exec i s = .next t →
    step (s.withFetchWord nbits w) = .next (t.noteReturn i).interruptPoint

/-- R200, R95, R100: a step is refused only where the host's next request names no operation. R95 and R100 say only that no
such operation exists; that the call is then refused, by name, is the model's choice (log entries 13 and 14). -/
def Obligations.StepIsRefusedOnlyForACallWithoutOperation : Prop :=
  ∀ (s : State) (r : Refusal), step s = .refused r ↔
    ∃ (c : Call) (rest : List HostAction) (e : DecodeError),
      s.host.queue = .invoke c :: rest ∧ decodeCall c = .error e ∧ r = refusalOf e

/-- R14, R113: no step turns the clock back. -/
def Obligations.TimeNeverGoesBack : Prop :=
  ∀ s t : State, step s = .next t → s.now ≤ t.now

/-- R32, R54, R70: no step changes a parameter. R14, R37, R62: none changes the inbound line, which is an input (its script is
log entry 2). -/
def Obligations.ParametersNeverChange : Prop :=
  ∀ s t : State, step s = .next t → t.cfg = s.cfg ∧ t.env.rxWave = s.env.rxWave ∧ ∀ u, t.rx u = s.rx u

/-- R29, R27, R64, R186: every step keeps the invariant of the machine, whatever the line, the interrupts, the host and
surrounding software do. -/
def Obligations.EveryStepKeepsTheInvariant : Prop :=
  ∀ s t : State, Invariant s → step s = .next t → Invariant t

/-- R30: code outside the block may write IE. The host action by which it does so, between operations, is the model's (log
entry 24), as is the note that the thread was outside the block (log entry 28); nothing else changes, and a request may be
serviced right after (log entry 10). -/
def Obligations.HostWriteOfIEIsTransparent : Prop :=
  ∀ (s : State) (b : Bool) (rest : List HostAction), s.host.queue = .writeIE b :: rest →
    step s = .next { s with
      ie := b
      host := { s.host with queue := rest, point := s.host.point.afterOutside } }.interruptPoint

/-- R244, R146: a mask that the caller had set does not survive a call that sends a frame. -/
def Obligations.CallersMaskDoesNotSurviveATransmit : Prop :=
  ∀ (s : State) (c : Call) (rest : List HostAction) (i : Instr), s.host.queue = .invoke c :: rest →
    decodeCall c = .ok i → transmits i = true → s.ie = false → ∃ t, step s = .next t ∧ t.ie = true

/-! ### MainLoop -/

/-- R182, R183, R185: the line is sampled once and that one sample decides what comes next; nothing stands between it and the
receive but a possible interrupt service, and the receive is then within the contract (the note of where the thread stands is
log entry 28). -/
def Obligations.OneSampleDecidesTheIteration : Prop :=
  ∀ s : State, s.host.queue = [] → s.host.loop = .poll → ∃ t, step s = .next t ∧
    t = { s with
      rxhist := s.rxhist ++ [(s.now, s.rx s.now)]
      now := s.now + s.stretch
      pend := s.pendAfter
      env := s.env.skipIrqs 1
      host := { s.host with
        result := .truth (decide (s.rx s.now = s.cfg.rxActiveLevel))
        point := .returned .startDetect
        loop := if s.rx s.now = s.cfg.rxActiveLevel then .receive else .idle } } ∧
    (t.host.loop = .receive → t.contractAllows .decodeFrame = true)

/-- R182, R186: a Receiving iteration runs one DECODE_FRAME, whose reads are all it reads; during warm-up its code
is only counted, afterwards it is handed on. The count is eight bits wide and wraps where WARMUP_FRAMES is above 255 (log
entry 25); what DECODE_FRAME does where RX_START_IS_BIT0 is true is log entry 12. -/
def Obligations.ReceivedCodeIsCountedOrHandedOn : Prop :=
  ∀ s : State, s.host.queue = [] → s.host.loop = .receive → ∃ u t, exec .decodeFrame s = .next u ∧ step s = .next t ∧
    t.host.loop = .flush ∧ t.rxout = u.rxout ∧ t.rxhist = u.rxhist ∧ t.txhist = s.txhist ∧ t.host.newLed = s.host.newLed ∧
    (s.host.reportsSeen.toNat < s.cfg.warmupFrames →
      t.host.reportsSeen = s.host.reportsSeen + 1 ∧ t.host.delivered = s.host.delivered) ∧
    (s.cfg.warmupFrames ≤ s.host.reportsSeen.toNat →
      t.host.reportsSeen = s.host.reportsSeen ∧ t.host.delivered = s.host.delivered ++ [u.rxout])

/-- R168, R182, R185: an Idle iteration sends nothing unless an LED byte is newly available, and then exactly one LED update:
the frame of 0x0E and the frame of LED_MAP of the byte; afterwards no byte is newly available. The byte is the one its own
surrounding software brings, else the one held since an earlier time (log entry 27). R30: where nothing is sent, IE is as
surrounding software leaves it, which may write it or not (log entry 24). -/
def Obligations.IdleIterationSendsAtMostOneLedUpdate : Prop :=
  ∀ s : State, s.host.queue = [] → s.host.loop = .idle → ∃ t, step s = .next t ∧ t.host.loop = .flush ∧
    t.rxhist = s.rxhist ∧ t.rxout = s.rxout ∧ t.host.newLed = none ∧
    (newestLed (s.env.workAt 0) s.host.newLed = none →
      t.txhist = s.txhist ∧ t.ie = ieAfterWork (s.env.workAt 0) s.ie) ∧
    (∀ b, newestLed (s.env.workAt 0) s.host.newLed = some b → t.ie = true ∧ ∃ g,
      t.txhist = s.txhist ++ frameWrites s.cfg (s.now + (s.env.workAt 0).ticks) 0x0E ++
        frameWrites s.cfg (s.now + (s.env.workAt 0).ticks + sendByteTicks s.cfg false + g)
          ((ledMask s.cfg b).setWidth 8))

/-- R168, R185: a newly available LED byte is not lost: only MainLoop's Idle iteration takes it, and a byte that arrives
during the report hand-over, or while the host's own work runs, is held for it. That the latest is the one held is log
entry 27. -/
def Obligations.LedByteIsHeldForTheIdleIteration : Prop :=
  ∀ s t : State, step s = .next t →
    (¬(s.host.queue = [] ∧ s.host.loop = .idle) → s.host.newLed ≠ none → t.host.newLed ≠ none) ∧
    ((s.host.queue = [] ∧ s.host.loop = .flush) ∨ s.host.queue.head? = some .work →
      t.host.newLed = newestLed (s.env.workAt 0) s.host.newLed)

/-- R183, R112 corner case c, R236: a step leaves DECODE_FRAME within the host's contract only if it was a START_DETECT that
found the line active, MainLoop's or the host's own; and it leaves WRITE_PIN within it only at the idle level, and only
while the host is still at boot, having called nothing but WRITE_PIN (how the host's place is kept is log entry 28). -/
def Obligations.ContractHoldsOnlyAtBootAndRightAfterDetection : Prop :=
  ∀ s t : State, step s = .next t →
    (t.contractAllows .decodeFrame = true → s.rx s.now = s.cfg.rxActiveLevel ∧
      ((s.host.queue = [] ∧ s.host.loop = .poll) ∨
        ∃ c rest, s.host.queue = .invoke c :: rest ∧ decodeCall c = .ok .startDetect)) ∧
    ∀ v, t.contractAllows (.writePin v) = true → v = s.cfg.txIdleLevel ∧ s.host.point = .boot ∧
      ∀ c rest i, s.host.queue = .invoke c :: rest → decodeCall c = .ok i → ∃ w, i = .writePin w

/-- R182, R65: the report hand-over ends the iteration and takes time; with it, and the interrupt point after it, nothing of
the block changes but the clock, the requests held and IE, which the USB collaborator may write (R30; log entry 24), and
MainLoop polls next (that it is a step of its own: log entry 5).
An LED byte that arrives meanwhile is held (log entry 27). -/
def Obligations.IterationEndsAtThePoll : Prop :=
  ∀ s : State, s.host.queue = [] → s.host.loop = .flush → step s = .next { s with
    ie := ieAfterWork (s.env.workAt 0) s.ie
    now := s.now + (s.env.workAt 0).ticks
    env := s.env.skipWork
    host := { s.host with
      loop := .poll
      newLed := newestLed (s.env.workAt 0) s.host.newLed
      point := s.host.point.afterOutside } }.interruptPoint

/-! ### The round trip -/

/-- R54, 90_conflicts.md C7, 95_test_vectors.md 3.4 (Rig A): PORT_TX wired straight to a receiver configured for it decodes,
for every value and either stop, to the seven bits sent with bit 7 set; and the receiver sees the start condition. -/
def Obligations.RoundTripInRigA : Prop :=
  ∀ (s t r : State) (value : Byte) (isLast : Bool),
    s.cfg.wellFormed = true → s.cfg.txInvert = true → s.cfg.txIdleLevel = .low → s.cfg.txStartCells = 1 →
    exec (.sendByte value isLast) s = .next t →
    r.cfg.tpb = s.cfg.tpb → r.cfg.rxIdleLevel = .low → r.cfg.rxInvert = true → r.cfg.rxStartIsBit0 = false →
    r.cfg.rxFirstDelay = 3 * r.cfg.tpb / 2 → r.env.rxWave = t.txhist → r.now = s.now →
    State.stretchOver 8 r < r.cfg.tpb / 2 →
    (∃ d, exec .startDetect r = .next d ∧ d.host.result = .truth true) ∧
    ∃ u, exec .decodeFrame r = .next u ∧ u.rxout = (value &&& 0x7F) ||| 0x80

/-- The same with an inverter between and an unmodified receiver (Rig B): the complement of the seven bits, bit 7 clear. -/
def Obligations.RoundTripInRigB : Prop :=
  ∀ (s t r : State) (value : Byte) (isLast : Bool),
    s.cfg.wellFormed = true → s.cfg.txInvert = true → s.cfg.txIdleLevel = .low → s.cfg.txStartCells = 1 →
    exec (.sendByte value isLast) s = .next t →
    r.cfg.tpb = s.cfg.tpb → r.cfg.rxIdleLevel = .high → r.cfg.rxInvert = true → r.cfg.rxStartIsBit0 = false →
    r.cfg.rxFirstDelay = 3 * r.cfg.tpb / 2 → r.env.rxWave = t.txhist.map (fun e => (e.1, e.2.inv)) → r.now = s.now →
    State.stretchOver 8 r < r.cfg.tpb / 2 →
    (∃ d, exec .startDetect r = .next d ∧ d.host.result = .truth true) ∧
    ∃ u, exec .decodeFrame r = .next u ∧ u.rxout = ~~~value &&& 0x7F
end

