-- ==== Sys2Proof/Laws/Config.lean ====
section
/-! SUPPORT. The defaults of the parameters meet the constraints of R10. -/

namespace Sys2Proof

/-- The two pins are distinct, whatever the open constants are. -/
theorem Params.ofTpb_pinsDistinct (tpb : Nat) : (Params.ofTpb tpb).pinsDistinct = true := by
  refine decide_eq_true ?_
  simp only [Params.ofTpb, Config.higherPin]
  split <;> omega

/-- R9's values and R10's defaults are legal for every legal length of the bit period. -/
theorem Params.ofTpb_wellFormed (tpb : Nat) (h2 : 2 ≤ tpb) (he : tpb % 2 = 0) : (Params.ofTpb tpb).wellFormed = true := by
  have ht : (Params.ofTpb tpb).tpbAtLeastTwo = true := decide_eq_true h2
  have hv : (Params.ofTpb tpb).tpbEven = true := beq_iff_eq.2 he
  simp only [Params.wellFormed, ht, hv, Params.ofTpb_pinsDistinct, Bool.true_and, Bool.and_true]
  rfl

end Sys2Proof
end

