-- ==== Sys2Proof/Laws/State.lean ====
section
/-! SUPPORT. What each named update of the state does to each field, each true by unfolding the update once. -/

namespace Sys2Proof.Machine

/-! ### Parts of the environment -/

@[simp] theorem skipIrqs_rxWave (e : Environment) (n : Nat) : (e.skipIrqs n).rxWave = e.rxWave := rfl
@[simp] theorem skipIrqs_irqs (e : Environment) (n : Nat) : (e.skipIrqs n).irqs = e.irqs.drop n := rfl
@[simp] theorem skipIrqs_irqCount (e : Environment) (n : Nat) : (e.skipIrqs n).irqCount = e.irqCount + n := rfl
@[simp] theorem skipIrqs_work (e : Environment) (n : Nat) : (e.skipIrqs n).work = e.work := rfl
@[simp] theorem skipIrqs_workCount (e : Environment) (n : Nat) : (e.skipIrqs n).workCount = e.workCount := rfl
@[simp] theorem skipWork_rxWave (e : Environment) : e.skipWork.rxWave = e.rxWave := rfl
@[simp] theorem skipWork_irqs (e : Environment) : e.skipWork.irqs = e.irqs := rfl
@[simp] theorem skipWork_irqCount (e : Environment) : e.skipWork.irqCount = e.irqCount := rfl
@[simp] theorem skipWork_work (e : Environment) : e.skipWork.work = e.work.drop 1 := rfl
@[simp] theorem skipWork_workCount (e : Environment) : e.skipWork.workCount = e.workCount + 1 := rfl

/-! ### State.recordRead -/

@[simp] theorem State.recordRead_rxsr (s : State) : s.recordRead.rxsr = s.rxsr := rfl
@[simp] theorem State.recordRead_rxcnt (s : State) : s.recordRead.rxcnt = s.rxcnt := rfl
@[simp] theorem State.recordRead_rxout (s : State) : s.recordRead.rxout = s.rxout := rfl
@[simp] theorem State.recordRead_rxph (s : State) : s.recordRead.rxph = s.rxph := rfl
@[simp] theorem State.recordRead_txsr (s : State) : s.recordRead.txsr = s.txsr := rfl
@[simp] theorem State.recordRead_txcnt (s : State) : s.recordRead.txcnt = s.txcnt := rfl
@[simp] theorem State.recordRead_txlast (s : State) : s.recordRead.txlast = s.txlast := rfl
@[simp] theorem State.recordRead_txline (s : State) : s.recordRead.txline = s.txline := rfl
@[simp] theorem State.recordRead_txph (s : State) : s.recordRead.txph = s.txph := rfl
@[simp] theorem State.recordRead_ie (s : State) : s.recordRead.ie = s.ie := rfl
@[simp] theorem State.recordRead_pend (s : State) : s.recordRead.pend = s.pend := rfl
@[simp] theorem State.recordRead_now (s : State) : s.recordRead.now = s.now := rfl
@[simp] theorem State.recordRead_txhist (s : State) : s.recordRead.txhist = s.txhist := rfl
@[simp] theorem State.recordRead_rxhist (s : State) : s.recordRead.rxhist = s.rxhist ++ [(s.now, s.rx s.now)] := rfl
@[simp] theorem State.recordRead_host (s : State) : s.recordRead.host = s.host := rfl
@[simp] theorem State.recordRead_env (s : State) : s.recordRead.env = s.env := rfl
@[simp] theorem State.recordRead_cfg (s : State) : s.recordRead.cfg = s.cfg := rfl
@[simp] theorem State.recordRead_rx (s : State) (t : Nat) : s.recordRead.rx t = s.rx t := rfl

/-! ### State.drive -/

@[simp] theorem State.drive_rxsr (s : State) (v : Level) : (s.drive v).rxsr = s.rxsr := rfl
@[simp] theorem State.drive_rxcnt (s : State) (v : Level) : (s.drive v).rxcnt = s.rxcnt := rfl
@[simp] theorem State.drive_rxout (s : State) (v : Level) : (s.drive v).rxout = s.rxout := rfl
@[simp] theorem State.drive_rxph (s : State) (v : Level) : (s.drive v).rxph = s.rxph := rfl
@[simp] theorem State.drive_txsr (s : State) (v : Level) : (s.drive v).txsr = s.txsr := rfl
@[simp] theorem State.drive_txcnt (s : State) (v : Level) : (s.drive v).txcnt = s.txcnt := rfl
@[simp] theorem State.drive_txlast (s : State) (v : Level) : (s.drive v).txlast = s.txlast := rfl
@[simp] theorem State.drive_txline (s : State) (v : Level) : (s.drive v).txline = v := rfl
@[simp] theorem State.drive_txph (s : State) (v : Level) : (s.drive v).txph = s.txph := rfl
@[simp] theorem State.drive_ie (s : State) (v : Level) : (s.drive v).ie = s.ie := rfl
@[simp] theorem State.drive_pend (s : State) (v : Level) : (s.drive v).pend = s.pend := rfl
@[simp] theorem State.drive_now (s : State) (v : Level) : (s.drive v).now = s.now := rfl
@[simp] theorem State.drive_txhist (s : State) (v : Level) : (s.drive v).txhist = s.txhist ++ [(s.now, v)] := rfl
@[simp] theorem State.drive_rxhist (s : State) (v : Level) : (s.drive v).rxhist = s.rxhist := rfl
@[simp] theorem State.drive_host (s : State) (v : Level) : (s.drive v).host = s.host := rfl
@[simp] theorem State.drive_env (s : State) (v : Level) : (s.drive v).env = s.env := rfl
@[simp] theorem State.drive_cfg (s : State) (v : Level) : (s.drive v).cfg = s.cfg := rfl
@[simp] theorem State.drive_rx (s : State) (v : Level) (t : Nat) : (s.drive v).rx t = s.rx t := rfl

/-! ### State.interruptPoint -/

@[simp] theorem State.interruptPoint_rxsr (s : State) : s.interruptPoint.rxsr = s.rxsr := rfl
@[simp] theorem State.interruptPoint_rxcnt (s : State) : s.interruptPoint.rxcnt = s.rxcnt := rfl
@[simp] theorem State.interruptPoint_rxout (s : State) : s.interruptPoint.rxout = s.rxout := rfl
@[simp] theorem State.interruptPoint_rxph (s : State) : s.interruptPoint.rxph = s.rxph := rfl
@[simp] theorem State.interruptPoint_txsr (s : State) : s.interruptPoint.txsr = s.txsr := rfl
@[simp] theorem State.interruptPoint_txcnt (s : State) : s.interruptPoint.txcnt = s.txcnt := rfl
@[simp] theorem State.interruptPoint_txlast (s : State) : s.interruptPoint.txlast = s.txlast := rfl
@[simp] theorem State.interruptPoint_txline (s : State) : s.interruptPoint.txline = s.txline := rfl
@[simp] theorem State.interruptPoint_txph (s : State) : s.interruptPoint.txph = s.txph := rfl
@[simp] theorem State.interruptPoint_ie (s : State) : s.interruptPoint.ie = s.ie := rfl
@[simp] theorem State.interruptPoint_pend (s : State) : s.interruptPoint.pend = s.pendAfter := rfl
@[simp] theorem State.interruptPoint_now (s : State) : s.interruptPoint.now = s.now + s.stretch := rfl
@[simp] theorem State.interruptPoint_txhist (s : State) : s.interruptPoint.txhist = s.txhist := rfl
@[simp] theorem State.interruptPoint_rxhist (s : State) : s.interruptPoint.rxhist = s.rxhist := rfl
@[simp] theorem State.interruptPoint_host (s : State) : s.interruptPoint.host = s.host := rfl
@[simp] theorem State.interruptPoint_env (s : State) : s.interruptPoint.env = s.env.skipIrqs 1 := rfl
@[simp] theorem State.interruptPoint_cfg (s : State) : s.interruptPoint.cfg = s.cfg := rfl
@[simp] theorem State.interruptPoint_rx (s : State) (t : Nat) : s.interruptPoint.rx t = s.rx t := rfl

/-! ### State.advance -/

@[simp] theorem State.advance_rxsr (s : State) (n : Nat) : (s.advance n).rxsr = s.rxsr := rfl
@[simp] theorem State.advance_rxcnt (s : State) (n : Nat) : (s.advance n).rxcnt = s.rxcnt := rfl
@[simp] theorem State.advance_rxout (s : State) (n : Nat) : (s.advance n).rxout = s.rxout := rfl
@[simp] theorem State.advance_rxph (s : State) (n : Nat) : (s.advance n).rxph = s.rxph := rfl
@[simp] theorem State.advance_txsr (s : State) (n : Nat) : (s.advance n).txsr = s.txsr := rfl
@[simp] theorem State.advance_txcnt (s : State) (n : Nat) : (s.advance n).txcnt = s.txcnt := rfl
@[simp] theorem State.advance_txlast (s : State) (n : Nat) : (s.advance n).txlast = s.txlast := rfl
@[simp] theorem State.advance_txline (s : State) (n : Nat) : (s.advance n).txline = s.txline := rfl
@[simp] theorem State.advance_txph (s : State) (n : Nat) : (s.advance n).txph = s.txph := rfl
@[simp] theorem State.advance_ie (s : State) (n : Nat) : (s.advance n).ie = s.ie := rfl
@[simp] theorem State.advance_pend (s : State) (n : Nat) : (s.advance n).pend = s.pend := rfl
@[simp] theorem State.advance_now (s : State) (n : Nat) : (s.advance n).now = s.now + n := rfl
@[simp] theorem State.advance_txhist (s : State) (n : Nat) : (s.advance n).txhist = s.txhist := rfl
@[simp] theorem State.advance_rxhist (s : State) (n : Nat) : (s.advance n).rxhist = s.rxhist := rfl
@[simp] theorem State.advance_host (s : State) (n : Nat) : (s.advance n).host = s.host := rfl
@[simp] theorem State.advance_env (s : State) (n : Nat) : (s.advance n).env = s.env := rfl
@[simp] theorem State.advance_cfg (s : State) (n : Nat) : (s.advance n).cfg = s.cfg := rfl
@[simp] theorem State.advance_rx (s : State) (n : Nat) (t : Nat) : (s.advance n).rx t = s.rx t := rfl

/-! ### State.delay -/

@[simp] theorem State.delay_rxsr (s : State) (n : Nat) : (s.delay n).rxsr = s.rxsr := rfl
@[simp] theorem State.delay_rxcnt (s : State) (n : Nat) : (s.delay n).rxcnt = s.rxcnt := rfl
@[simp] theorem State.delay_rxout (s : State) (n : Nat) : (s.delay n).rxout = s.rxout := rfl
@[simp] theorem State.delay_rxph (s : State) (n : Nat) : (s.delay n).rxph = s.rxph := rfl
@[simp] theorem State.delay_txsr (s : State) (n : Nat) : (s.delay n).txsr = s.txsr := rfl
@[simp] theorem State.delay_txcnt (s : State) (n : Nat) : (s.delay n).txcnt = s.txcnt := rfl
@[simp] theorem State.delay_txlast (s : State) (n : Nat) : (s.delay n).txlast = s.txlast := rfl
@[simp] theorem State.delay_txline (s : State) (n : Nat) : (s.delay n).txline = s.txline := rfl
@[simp] theorem State.delay_txph (s : State) (n : Nat) : (s.delay n).txph = s.txph := rfl
@[simp] theorem State.delay_ie (s : State) (n : Nat) : (s.delay n).ie = s.ie := rfl
@[simp] theorem State.delay_pend (s : State) (n : Nat) : (s.delay n).pend = s.pendAfter := rfl
@[simp] theorem State.delay_now (s : State) (n : Nat) : (s.delay n).now = s.now + n + s.stretch := rfl
@[simp] theorem State.delay_txhist (s : State) (n : Nat) : (s.delay n).txhist = s.txhist := rfl
@[simp] theorem State.delay_rxhist (s : State) (n : Nat) : (s.delay n).rxhist = s.rxhist := rfl
@[simp] theorem State.delay_host (s : State) (n : Nat) : (s.delay n).host = s.host := rfl
@[simp] theorem State.delay_env (s : State) (n : Nat) : (s.delay n).env = s.env.skipIrqs 1 := rfl
@[simp] theorem State.delay_cfg (s : State) (n : Nat) : (s.delay n).cfg = s.cfg := rfl
@[simp] theorem State.delay_rx (s : State) (n : Nat) (t : Nat) : (s.delay n).rx t = s.rx t := rfl

/-! ### State.setRxPhase -/

@[simp] theorem State.setRxPhase_rxsr (s : State) (p : RxPhase) : (s.setRxPhase p).rxsr = s.rxsr := rfl
@[simp] theorem State.setRxPhase_rxcnt (s : State) (p : RxPhase) : (s.setRxPhase p).rxcnt = s.rxcnt := rfl
@[simp] theorem State.setRxPhase_rxout (s : State) (p : RxPhase) : (s.setRxPhase p).rxout = s.rxout := rfl
@[simp] theorem State.setRxPhase_rxph (s : State) (p : RxPhase) : (s.setRxPhase p).rxph = p := rfl
@[simp] theorem State.setRxPhase_txsr (s : State) (p : RxPhase) : (s.setRxPhase p).txsr = s.txsr := rfl
@[simp] theorem State.setRxPhase_txcnt (s : State) (p : RxPhase) : (s.setRxPhase p).txcnt = s.txcnt := rfl
@[simp] theorem State.setRxPhase_txlast (s : State) (p : RxPhase) : (s.setRxPhase p).txlast = s.txlast := rfl
@[simp] theorem State.setRxPhase_txline (s : State) (p : RxPhase) : (s.setRxPhase p).txline = s.txline := rfl
@[simp] theorem State.setRxPhase_txph (s : State) (p : RxPhase) : (s.setRxPhase p).txph = s.txph := rfl
@[simp] theorem State.setRxPhase_ie (s : State) (p : RxPhase) : (s.setRxPhase p).ie = s.ie := rfl
@[simp] theorem State.setRxPhase_pend (s : State) (p : RxPhase) : (s.setRxPhase p).pend = s.pend := rfl
@[simp] theorem State.setRxPhase_now (s : State) (p : RxPhase) : (s.setRxPhase p).now = s.now := rfl
@[simp] theorem State.setRxPhase_txhist (s : State) (p : RxPhase) : (s.setRxPhase p).txhist = s.txhist := rfl
@[simp] theorem State.setRxPhase_rxhist (s : State) (p : RxPhase) : (s.setRxPhase p).rxhist = s.rxhist := rfl
@[simp] theorem State.setRxPhase_host (s : State) (p : RxPhase) : (s.setRxPhase p).host = s.host := rfl
@[simp] theorem State.setRxPhase_env (s : State) (p : RxPhase) : (s.setRxPhase p).env = s.env := rfl
@[simp] theorem State.setRxPhase_cfg (s : State) (p : RxPhase) : (s.setRxPhase p).cfg = s.cfg := rfl
@[simp] theorem State.setRxPhase_rx (s : State) (p : RxPhase) (t : Nat) : (s.setRxPhase p).rx t = s.rx t := rfl

/-! ### State.setRxCount -/

@[simp] theorem State.setRxCount_rxsr (s : State) (n : Nat) : (s.setRxCount n).rxsr = s.rxsr := rfl
@[simp] theorem State.setRxCount_rxcnt (s : State) (n : Nat) : (s.setRxCount n).rxcnt = BitVec.ofNat 4 n := rfl
@[simp] theorem State.setRxCount_rxout (s : State) (n : Nat) : (s.setRxCount n).rxout = s.rxout := rfl
@[simp] theorem State.setRxCount_rxph (s : State) (n : Nat) : (s.setRxCount n).rxph = s.rxph := rfl
@[simp] theorem State.setRxCount_txsr (s : State) (n : Nat) : (s.setRxCount n).txsr = s.txsr := rfl
@[simp] theorem State.setRxCount_txcnt (s : State) (n : Nat) : (s.setRxCount n).txcnt = s.txcnt := rfl
@[simp] theorem State.setRxCount_txlast (s : State) (n : Nat) : (s.setRxCount n).txlast = s.txlast := rfl
@[simp] theorem State.setRxCount_txline (s : State) (n : Nat) : (s.setRxCount n).txline = s.txline := rfl
@[simp] theorem State.setRxCount_txph (s : State) (n : Nat) : (s.setRxCount n).txph = s.txph := rfl
@[simp] theorem State.setRxCount_ie (s : State) (n : Nat) : (s.setRxCount n).ie = s.ie := rfl
@[simp] theorem State.setRxCount_pend (s : State) (n : Nat) : (s.setRxCount n).pend = s.pend := rfl
@[simp] theorem State.setRxCount_now (s : State) (n : Nat) : (s.setRxCount n).now = s.now := rfl
@[simp] theorem State.setRxCount_txhist (s : State) (n : Nat) : (s.setRxCount n).txhist = s.txhist := rfl
@[simp] theorem State.setRxCount_rxhist (s : State) (n : Nat) : (s.setRxCount n).rxhist = s.rxhist := rfl
@[simp] theorem State.setRxCount_host (s : State) (n : Nat) : (s.setRxCount n).host = s.host := rfl
@[simp] theorem State.setRxCount_env (s : State) (n : Nat) : (s.setRxCount n).env = s.env := rfl
@[simp] theorem State.setRxCount_cfg (s : State) (n : Nat) : (s.setRxCount n).cfg = s.cfg := rfl
@[simp] theorem State.setRxCount_rx (s : State) (n : Nat) (t : Nat) : (s.setRxCount n).rx t = s.rx t := rfl

/-! ### State.shiftRx -/

@[simp] theorem State.shiftRx_rxsr (s : State) (b : Bool) : (s.shiftRx b).rxsr = shiftIn s.rxsr b := rfl
@[simp] theorem State.shiftRx_rxcnt (s : State) (b : Bool) : (s.shiftRx b).rxcnt = s.rxcnt := rfl
@[simp] theorem State.shiftRx_rxout (s : State) (b : Bool) : (s.shiftRx b).rxout = s.rxout := rfl
@[simp] theorem State.shiftRx_rxph (s : State) (b : Bool) : (s.shiftRx b).rxph = s.rxph := rfl
@[simp] theorem State.shiftRx_txsr (s : State) (b : Bool) : (s.shiftRx b).txsr = s.txsr := rfl
@[simp] theorem State.shiftRx_txcnt (s : State) (b : Bool) : (s.shiftRx b).txcnt = s.txcnt := rfl
@[simp] theorem State.shiftRx_txlast (s : State) (b : Bool) : (s.shiftRx b).txlast = s.txlast := rfl
@[simp] theorem State.shiftRx_txline (s : State) (b : Bool) : (s.shiftRx b).txline = s.txline := rfl
@[simp] theorem State.shiftRx_txph (s : State) (b : Bool) : (s.shiftRx b).txph = s.txph := rfl
@[simp] theorem State.shiftRx_ie (s : State) (b : Bool) : (s.shiftRx b).ie = s.ie := rfl
@[simp] theorem State.shiftRx_pend (s : State) (b : Bool) : (s.shiftRx b).pend = s.pend := rfl
@[simp] theorem State.shiftRx_now (s : State) (b : Bool) : (s.shiftRx b).now = s.now := rfl
@[simp] theorem State.shiftRx_txhist (s : State) (b : Bool) : (s.shiftRx b).txhist = s.txhist := rfl
@[simp] theorem State.shiftRx_rxhist (s : State) (b : Bool) : (s.shiftRx b).rxhist = s.rxhist := rfl
@[simp] theorem State.shiftRx_host (s : State) (b : Bool) : (s.shiftRx b).host = s.host := rfl
@[simp] theorem State.shiftRx_env (s : State) (b : Bool) : (s.shiftRx b).env = s.env := rfl
@[simp] theorem State.shiftRx_cfg (s : State) (b : Bool) : (s.shiftRx b).cfg = s.cfg := rfl
@[simp] theorem State.shiftRx_rx (s : State) (b : Bool) (t : Nat) : (s.shiftRx b).rx t = s.rx t := rfl

/-! ### State.takeSample -/

@[simp] theorem State.takeSample_rxsr (s : State) : s.takeSample.rxsr = shiftIn s.rxsr (logicalBit s.cfg (s.rx s.now)) := rfl
@[simp] theorem State.takeSample_rxcnt (s : State) : s.takeSample.rxcnt = s.rxcnt := rfl
@[simp] theorem State.takeSample_rxout (s : State) : s.takeSample.rxout = s.rxout := rfl
@[simp] theorem State.takeSample_rxph (s : State) : s.takeSample.rxph = s.rxph := rfl
@[simp] theorem State.takeSample_txsr (s : State) : s.takeSample.txsr = s.txsr := rfl
@[simp] theorem State.takeSample_txcnt (s : State) : s.takeSample.txcnt = s.txcnt := rfl
@[simp] theorem State.takeSample_txlast (s : State) : s.takeSample.txlast = s.txlast := rfl
@[simp] theorem State.takeSample_txline (s : State) : s.takeSample.txline = s.txline := rfl
@[simp] theorem State.takeSample_txph (s : State) : s.takeSample.txph = s.txph := rfl
@[simp] theorem State.takeSample_ie (s : State) : s.takeSample.ie = s.ie := rfl
@[simp] theorem State.takeSample_pend (s : State) : s.takeSample.pend = s.pend := rfl
@[simp] theorem State.takeSample_now (s : State) : s.takeSample.now = s.now := rfl
@[simp] theorem State.takeSample_txhist (s : State) : s.takeSample.txhist = s.txhist := rfl
@[simp] theorem State.takeSample_rxhist (s : State) : s.takeSample.rxhist = s.rxhist ++ [(s.now, s.rx s.now)] := rfl
@[simp] theorem State.takeSample_host (s : State) : s.takeSample.host = s.host := rfl
@[simp] theorem State.takeSample_env (s : State) : s.takeSample.env = s.env := rfl
@[simp] theorem State.takeSample_cfg (s : State) : s.takeSample.cfg = s.cfg := rfl
@[simp] theorem State.takeSample_rx (s : State) (t : Nat) : s.takeSample.rx t = s.rx t := rfl

/-! ### State.latchRxOut -/

@[simp] theorem State.latchRxOut_rxsr (s : State) : s.latchRxOut.rxsr = s.rxsr := rfl
@[simp] theorem State.latchRxOut_rxcnt (s : State) : s.latchRxOut.rxcnt = s.rxcnt := rfl
@[simp] theorem State.latchRxOut_rxout (s : State) : s.latchRxOut.rxout = s.rxsr := rfl
@[simp] theorem State.latchRxOut_rxph (s : State) : s.latchRxOut.rxph = s.rxph := rfl
@[simp] theorem State.latchRxOut_txsr (s : State) : s.latchRxOut.txsr = s.txsr := rfl
@[simp] theorem State.latchRxOut_txcnt (s : State) : s.latchRxOut.txcnt = s.txcnt := rfl
@[simp] theorem State.latchRxOut_txlast (s : State) : s.latchRxOut.txlast = s.txlast := rfl
@[simp] theorem State.latchRxOut_txline (s : State) : s.latchRxOut.txline = s.txline := rfl
@[simp] theorem State.latchRxOut_txph (s : State) : s.latchRxOut.txph = s.txph := rfl
@[simp] theorem State.latchRxOut_ie (s : State) : s.latchRxOut.ie = s.ie := rfl
@[simp] theorem State.latchRxOut_pend (s : State) : s.latchRxOut.pend = s.pend := rfl
@[simp] theorem State.latchRxOut_now (s : State) : s.latchRxOut.now = s.now := rfl
@[simp] theorem State.latchRxOut_txhist (s : State) : s.latchRxOut.txhist = s.txhist := rfl
@[simp] theorem State.latchRxOut_rxhist (s : State) : s.latchRxOut.rxhist = s.rxhist := rfl
@[simp] theorem State.latchRxOut_host (s : State) : s.latchRxOut.host = s.host := rfl
@[simp] theorem State.latchRxOut_env (s : State) : s.latchRxOut.env = s.env := rfl
@[simp] theorem State.latchRxOut_cfg (s : State) : s.latchRxOut.cfg = s.cfg := rfl
@[simp] theorem State.latchRxOut_rx (s : State) (t : Nat) : s.latchRxOut.rx t = s.rx t := rfl

/-! ### State.setTxPhase -/

@[simp] theorem State.setTxPhase_rxsr (s : State) (p : TxPhase) : (s.setTxPhase p).rxsr = s.rxsr := rfl
@[simp] theorem State.setTxPhase_rxcnt (s : State) (p : TxPhase) : (s.setTxPhase p).rxcnt = s.rxcnt := rfl
@[simp] theorem State.setTxPhase_rxout (s : State) (p : TxPhase) : (s.setTxPhase p).rxout = s.rxout := rfl
@[simp] theorem State.setTxPhase_rxph (s : State) (p : TxPhase) : (s.setTxPhase p).rxph = s.rxph := rfl
@[simp] theorem State.setTxPhase_txsr (s : State) (p : TxPhase) : (s.setTxPhase p).txsr = s.txsr := rfl
@[simp] theorem State.setTxPhase_txcnt (s : State) (p : TxPhase) : (s.setTxPhase p).txcnt = s.txcnt := rfl
@[simp] theorem State.setTxPhase_txlast (s : State) (p : TxPhase) : (s.setTxPhase p).txlast = s.txlast := rfl
@[simp] theorem State.setTxPhase_txline (s : State) (p : TxPhase) : (s.setTxPhase p).txline = s.txline := rfl
@[simp] theorem State.setTxPhase_txph (s : State) (p : TxPhase) : (s.setTxPhase p).txph = p := rfl
@[simp] theorem State.setTxPhase_ie (s : State) (p : TxPhase) : (s.setTxPhase p).ie = s.ie := rfl
@[simp] theorem State.setTxPhase_pend (s : State) (p : TxPhase) : (s.setTxPhase p).pend = s.pend := rfl
@[simp] theorem State.setTxPhase_now (s : State) (p : TxPhase) : (s.setTxPhase p).now = s.now := rfl
@[simp] theorem State.setTxPhase_txhist (s : State) (p : TxPhase) : (s.setTxPhase p).txhist = s.txhist := rfl
@[simp] theorem State.setTxPhase_rxhist (s : State) (p : TxPhase) : (s.setTxPhase p).rxhist = s.rxhist := rfl
@[simp] theorem State.setTxPhase_host (s : State) (p : TxPhase) : (s.setTxPhase p).host = s.host := rfl
@[simp] theorem State.setTxPhase_env (s : State) (p : TxPhase) : (s.setTxPhase p).env = s.env := rfl
@[simp] theorem State.setTxPhase_cfg (s : State) (p : TxPhase) : (s.setTxPhase p).cfg = s.cfg := rfl
@[simp] theorem State.setTxPhase_rx (s : State) (p : TxPhase) (t : Nat) : (s.setTxPhase p).rx t = s.rx t := rfl

/-! ### State.latchTx -/

@[simp] theorem State.latchTx_rxsr (s : State) (v : Byte) (l : Bool) : (s.latchTx v l).rxsr = s.rxsr := rfl
@[simp] theorem State.latchTx_rxcnt (s : State) (v : Byte) (l : Bool) : (s.latchTx v l).rxcnt = s.rxcnt := rfl
@[simp] theorem State.latchTx_rxout (s : State) (v : Byte) (l : Bool) : (s.latchTx v l).rxout = s.rxout := rfl
@[simp] theorem State.latchTx_rxph (s : State) (v : Byte) (l : Bool) : (s.latchTx v l).rxph = s.rxph := rfl
@[simp] theorem State.latchTx_txsr (s : State) (v : Byte) (l : Bool) : (s.latchTx v l).txsr = v := rfl
@[simp] theorem State.latchTx_txcnt (s : State) (v : Byte) (l : Bool) : (s.latchTx v l).txcnt = 0 := rfl
@[simp] theorem State.latchTx_txlast (s : State) (v : Byte) (l : Bool) : (s.latchTx v l).txlast = l := rfl
@[simp] theorem State.latchTx_txline (s : State) (v : Byte) (l : Bool) : (s.latchTx v l).txline = s.txline := rfl
@[simp] theorem State.latchTx_txph (s : State) (v : Byte) (l : Bool) : (s.latchTx v l).txph = s.txph := rfl
@[simp] theorem State.latchTx_ie (s : State) (v : Byte) (l : Bool) : (s.latchTx v l).ie = s.ie := rfl
@[simp] theorem State.latchTx_pend (s : State) (v : Byte) (l : Bool) : (s.latchTx v l).pend = s.pend := rfl
@[simp] theorem State.latchTx_now (s : State) (v : Byte) (l : Bool) : (s.latchTx v l).now = s.now := rfl
@[simp] theorem State.latchTx_txhist (s : State) (v : Byte) (l : Bool) : (s.latchTx v l).txhist = s.txhist := rfl
@[simp] theorem State.latchTx_rxhist (s : State) (v : Byte) (l : Bool) : (s.latchTx v l).rxhist = s.rxhist := rfl
@[simp] theorem State.latchTx_host (s : State) (v : Byte) (l : Bool) : (s.latchTx v l).host = s.host := rfl
@[simp] theorem State.latchTx_env (s : State) (v : Byte) (l : Bool) : (s.latchTx v l).env = s.env := rfl
@[simp] theorem State.latchTx_cfg (s : State) (v : Byte) (l : Bool) : (s.latchTx v l).cfg = s.cfg := rfl
@[simp] theorem State.latchTx_rx (s : State) (v : Byte) (l : Bool) (t : Nat) : (s.latchTx v l).rx t = s.rx t := rfl

/-! ### State.setTxCount -/

@[simp] theorem State.setTxCount_rxsr (s : State) (n : Nat) : (s.setTxCount n).rxsr = s.rxsr := rfl
@[simp] theorem State.setTxCount_rxcnt (s : State) (n : Nat) : (s.setTxCount n).rxcnt = s.rxcnt := rfl
@[simp] theorem State.setTxCount_rxout (s : State) (n : Nat) : (s.setTxCount n).rxout = s.rxout := rfl
@[simp] theorem State.setTxCount_rxph (s : State) (n : Nat) : (s.setTxCount n).rxph = s.rxph := rfl
@[simp] theorem State.setTxCount_txsr (s : State) (n : Nat) : (s.setTxCount n).txsr = s.txsr := rfl
@[simp] theorem State.setTxCount_txcnt (s : State) (n : Nat) : (s.setTxCount n).txcnt = BitVec.ofNat 3 n := rfl
@[simp] theorem State.setTxCount_txlast (s : State) (n : Nat) : (s.setTxCount n).txlast = s.txlast := rfl
@[simp] theorem State.setTxCount_txline (s : State) (n : Nat) : (s.setTxCount n).txline = s.txline := rfl
@[simp] theorem State.setTxCount_txph (s : State) (n : Nat) : (s.setTxCount n).txph = s.txph := rfl
@[simp] theorem State.setTxCount_ie (s : State) (n : Nat) : (s.setTxCount n).ie = s.ie := rfl
@[simp] theorem State.setTxCount_pend (s : State) (n : Nat) : (s.setTxCount n).pend = s.pend := rfl
@[simp] theorem State.setTxCount_now (s : State) (n : Nat) : (s.setTxCount n).now = s.now := rfl
@[simp] theorem State.setTxCount_txhist (s : State) (n : Nat) : (s.setTxCount n).txhist = s.txhist := rfl
@[simp] theorem State.setTxCount_rxhist (s : State) (n : Nat) : (s.setTxCount n).rxhist = s.rxhist := rfl
@[simp] theorem State.setTxCount_host (s : State) (n : Nat) : (s.setTxCount n).host = s.host := rfl
@[simp] theorem State.setTxCount_env (s : State) (n : Nat) : (s.setTxCount n).env = s.env := rfl
@[simp] theorem State.setTxCount_cfg (s : State) (n : Nat) : (s.setTxCount n).cfg = s.cfg := rfl
@[simp] theorem State.setTxCount_rx (s : State) (n : Nat) (t : Nat) : (s.setTxCount n).rx t = s.rx t := rfl

/-! ### State.driveData -/

@[simp] theorem State.driveData_rxsr (s : State) (i : Fin 7) : (s.driveData i).rxsr = s.rxsr := rfl
@[simp] theorem State.driveData_rxcnt (s : State) (i : Fin 7) : (s.driveData i).rxcnt = s.rxcnt := rfl
@[simp] theorem State.driveData_rxout (s : State) (i : Fin 7) : (s.driveData i).rxout = s.rxout := rfl
@[simp] theorem State.driveData_rxph (s : State) (i : Fin 7) : (s.driveData i).rxph = s.rxph := rfl
@[simp] theorem State.driveData_txsr (s : State) (i : Fin 7) : (s.driveData i).txsr = s.txsr := rfl
@[simp] theorem State.driveData_txcnt (s : State) (i : Fin 7) : (s.driveData i).txcnt = s.txcnt := rfl
@[simp] theorem State.driveData_txlast (s : State) (i : Fin 7) : (s.driveData i).txlast = s.txlast := rfl
@[simp] theorem State.driveData_txline (s : State) (i : Fin 7) : (s.driveData i).txline = dataLevel s.cfg s.txsr i := rfl
@[simp] theorem State.driveData_txph (s : State) (i : Fin 7) : (s.driveData i).txph = s.txph := rfl
@[simp] theorem State.driveData_ie (s : State) (i : Fin 7) : (s.driveData i).ie = s.ie := rfl
@[simp] theorem State.driveData_pend (s : State) (i : Fin 7) : (s.driveData i).pend = s.pend := rfl
@[simp] theorem State.driveData_now (s : State) (i : Fin 7) : (s.driveData i).now = s.now := rfl
@[simp] theorem State.driveData_txhist (s : State) (i : Fin 7) : (s.driveData i).txhist = s.txhist ++ [(s.now, dataLevel s.cfg s.txsr i)] := rfl
@[simp] theorem State.driveData_rxhist (s : State) (i : Fin 7) : (s.driveData i).rxhist = s.rxhist := rfl
@[simp] theorem State.driveData_host (s : State) (i : Fin 7) : (s.driveData i).host = s.host := rfl
@[simp] theorem State.driveData_env (s : State) (i : Fin 7) : (s.driveData i).env = s.env := rfl
@[simp] theorem State.driveData_cfg (s : State) (i : Fin 7) : (s.driveData i).cfg = s.cfg := rfl
@[simp] theorem State.driveData_rx (s : State) (i : Fin 7) (t : Nat) : (s.driveData i).rx t = s.rx t := rfl

/-! ### State.stopDelay -/

@[simp] theorem State.stopDelay_rxsr (s : State) : s.stopDelay.rxsr = s.rxsr := rfl
@[simp] theorem State.stopDelay_rxcnt (s : State) : s.stopDelay.rxcnt = s.rxcnt := rfl
@[simp] theorem State.stopDelay_rxout (s : State) : s.stopDelay.rxout = s.rxout := rfl
@[simp] theorem State.stopDelay_rxph (s : State) : s.stopDelay.rxph = s.rxph := rfl
@[simp] theorem State.stopDelay_txsr (s : State) : s.stopDelay.txsr = s.txsr := rfl
@[simp] theorem State.stopDelay_txcnt (s : State) : s.stopDelay.txcnt = s.txcnt := rfl
@[simp] theorem State.stopDelay_txlast (s : State) : s.stopDelay.txlast = s.txlast := rfl
@[simp] theorem State.stopDelay_txline (s : State) : s.stopDelay.txline = s.txline := rfl
@[simp] theorem State.stopDelay_txph (s : State) : s.stopDelay.txph = s.txph := rfl
@[simp] theorem State.stopDelay_ie (s : State) : s.stopDelay.ie = s.ie := rfl
@[simp] theorem State.stopDelay_pend (s : State) : s.stopDelay.pend = s.pendAfter := rfl
@[simp] theorem State.stopDelay_now (s : State) : s.stopDelay.now = s.now + s.cfg.stopCells s.txlast * s.cfg.tpb + s.stretch := rfl
@[simp] theorem State.stopDelay_txhist (s : State) : s.stopDelay.txhist = s.txhist := rfl
@[simp] theorem State.stopDelay_rxhist (s : State) : s.stopDelay.rxhist = s.rxhist := rfl
@[simp] theorem State.stopDelay_host (s : State) : s.stopDelay.host = s.host := rfl
@[simp] theorem State.stopDelay_env (s : State) : s.stopDelay.env = s.env.skipIrqs 1 := rfl
@[simp] theorem State.stopDelay_cfg (s : State) : s.stopDelay.cfg = s.cfg := rfl
@[simp] theorem State.stopDelay_rx (s : State) (t : Nat) : s.stopDelay.rx t = s.rx t := rfl

/-! ### State.giveResult -/

@[simp] theorem State.giveResult_rxsr (s : State) (r : HostResult) : (s.giveResult r).rxsr = s.rxsr := rfl
@[simp] theorem State.giveResult_rxcnt (s : State) (r : HostResult) : (s.giveResult r).rxcnt = s.rxcnt := rfl
@[simp] theorem State.giveResult_rxout (s : State) (r : HostResult) : (s.giveResult r).rxout = s.rxout := rfl
@[simp] theorem State.giveResult_rxph (s : State) (r : HostResult) : (s.giveResult r).rxph = s.rxph := rfl
@[simp] theorem State.giveResult_txsr (s : State) (r : HostResult) : (s.giveResult r).txsr = s.txsr := rfl
@[simp] theorem State.giveResult_txcnt (s : State) (r : HostResult) : (s.giveResult r).txcnt = s.txcnt := rfl
@[simp] theorem State.giveResult_txlast (s : State) (r : HostResult) : (s.giveResult r).txlast = s.txlast := rfl
@[simp] theorem State.giveResult_txline (s : State) (r : HostResult) : (s.giveResult r).txline = s.txline := rfl
@[simp] theorem State.giveResult_txph (s : State) (r : HostResult) : (s.giveResult r).txph = s.txph := rfl
@[simp] theorem State.giveResult_ie (s : State) (r : HostResult) : (s.giveResult r).ie = s.ie := rfl
@[simp] theorem State.giveResult_pend (s : State) (r : HostResult) : (s.giveResult r).pend = s.pend := rfl
@[simp] theorem State.giveResult_now (s : State) (r : HostResult) : (s.giveResult r).now = s.now := rfl
@[simp] theorem State.giveResult_txhist (s : State) (r : HostResult) : (s.giveResult r).txhist = s.txhist := rfl
@[simp] theorem State.giveResult_rxhist (s : State) (r : HostResult) : (s.giveResult r).rxhist = s.rxhist := rfl
@[simp] theorem State.giveResult_host (s : State) (r : HostResult) : (s.giveResult r).host = { s.host with result := r } := rfl
@[simp] theorem State.giveResult_env (s : State) (r : HostResult) : (s.giveResult r).env = s.env := rfl
@[simp] theorem State.giveResult_cfg (s : State) (r : HostResult) : (s.giveResult r).cfg = s.cfg := rfl
@[simp] theorem State.giveResult_rx (s : State) (r : HostResult) (t : Nat) : (s.giveResult r).rx t = s.rx t := rfl

/-! ### State.setQueue -/

@[simp] theorem State.setQueue_rxsr (s : State) (q : List HostAction) : (s.setQueue q).rxsr = s.rxsr := rfl
@[simp] theorem State.setQueue_rxcnt (s : State) (q : List HostAction) : (s.setQueue q).rxcnt = s.rxcnt := rfl
@[simp] theorem State.setQueue_rxout (s : State) (q : List HostAction) : (s.setQueue q).rxout = s.rxout := rfl
@[simp] theorem State.setQueue_rxph (s : State) (q : List HostAction) : (s.setQueue q).rxph = s.rxph := rfl
@[simp] theorem State.setQueue_txsr (s : State) (q : List HostAction) : (s.setQueue q).txsr = s.txsr := rfl
@[simp] theorem State.setQueue_txcnt (s : State) (q : List HostAction) : (s.setQueue q).txcnt = s.txcnt := rfl
@[simp] theorem State.setQueue_txlast (s : State) (q : List HostAction) : (s.setQueue q).txlast = s.txlast := rfl
@[simp] theorem State.setQueue_txline (s : State) (q : List HostAction) : (s.setQueue q).txline = s.txline := rfl
@[simp] theorem State.setQueue_txph (s : State) (q : List HostAction) : (s.setQueue q).txph = s.txph := rfl
@[simp] theorem State.setQueue_ie (s : State) (q : List HostAction) : (s.setQueue q).ie = s.ie := rfl
@[simp] theorem State.setQueue_pend (s : State) (q : List HostAction) : (s.setQueue q).pend = s.pend := rfl
@[simp] theorem State.setQueue_now (s : State) (q : List HostAction) : (s.setQueue q).now = s.now := rfl
@[simp] theorem State.setQueue_txhist (s : State) (q : List HostAction) : (s.setQueue q).txhist = s.txhist := rfl
@[simp] theorem State.setQueue_rxhist (s : State) (q : List HostAction) : (s.setQueue q).rxhist = s.rxhist := rfl
@[simp] theorem State.setQueue_host (s : State) (q : List HostAction) : (s.setQueue q).host = { s.host with queue := q } := rfl
@[simp] theorem State.setQueue_env (s : State) (q : List HostAction) : (s.setQueue q).env = s.env := rfl
@[simp] theorem State.setQueue_cfg (s : State) (q : List HostAction) : (s.setQueue q).cfg = s.cfg := rfl
@[simp] theorem State.setQueue_rx (s : State) (q : List HostAction) (t : Nat) : (s.setQueue q).rx t = s.rx t := rfl

/-! ### State.setLoop -/

@[simp] theorem State.setLoop_rxsr (s : State) (p : LoopPhase) : (s.setLoop p).rxsr = s.rxsr := rfl
@[simp] theorem State.setLoop_rxcnt (s : State) (p : LoopPhase) : (s.setLoop p).rxcnt = s.rxcnt := rfl
@[simp] theorem State.setLoop_rxout (s : State) (p : LoopPhase) : (s.setLoop p).rxout = s.rxout := rfl
@[simp] theorem State.setLoop_rxph (s : State) (p : LoopPhase) : (s.setLoop p).rxph = s.rxph := rfl
@[simp] theorem State.setLoop_txsr (s : State) (p : LoopPhase) : (s.setLoop p).txsr = s.txsr := rfl
@[simp] theorem State.setLoop_txcnt (s : State) (p : LoopPhase) : (s.setLoop p).txcnt = s.txcnt := rfl
@[simp] theorem State.setLoop_txlast (s : State) (p : LoopPhase) : (s.setLoop p).txlast = s.txlast := rfl
@[simp] theorem State.setLoop_txline (s : State) (p : LoopPhase) : (s.setLoop p).txline = s.txline := rfl
@[simp] theorem State.setLoop_txph (s : State) (p : LoopPhase) : (s.setLoop p).txph = s.txph := rfl
@[simp] theorem State.setLoop_ie (s : State) (p : LoopPhase) : (s.setLoop p).ie = s.ie := rfl
@[simp] theorem State.setLoop_pend (s : State) (p : LoopPhase) : (s.setLoop p).pend = s.pend := rfl
@[simp] theorem State.setLoop_now (s : State) (p : LoopPhase) : (s.setLoop p).now = s.now := rfl
@[simp] theorem State.setLoop_txhist (s : State) (p : LoopPhase) : (s.setLoop p).txhist = s.txhist := rfl
@[simp] theorem State.setLoop_rxhist (s : State) (p : LoopPhase) : (s.setLoop p).rxhist = s.rxhist := rfl
@[simp] theorem State.setLoop_host (s : State) (p : LoopPhase) : (s.setLoop p).host = { s.host with loop := p } := rfl
@[simp] theorem State.setLoop_env (s : State) (p : LoopPhase) : (s.setLoop p).env = s.env := rfl
@[simp] theorem State.setLoop_cfg (s : State) (p : LoopPhase) : (s.setLoop p).cfg = s.cfg := rfl
@[simp] theorem State.setLoop_rx (s : State) (p : LoopPhase) (t : Nat) : (s.setLoop p).rx t = s.rx t := rfl

/-! ### State.surroundingWork -/

@[simp] theorem State.surroundingWork_rxsr (s : State) : s.surroundingWork.rxsr = s.rxsr := rfl
@[simp] theorem State.surroundingWork_rxcnt (s : State) : s.surroundingWork.rxcnt = s.rxcnt := rfl
@[simp] theorem State.surroundingWork_rxout (s : State) : s.surroundingWork.rxout = s.rxout := rfl
@[simp] theorem State.surroundingWork_rxph (s : State) : s.surroundingWork.rxph = s.rxph := rfl
@[simp] theorem State.surroundingWork_txsr (s : State) : s.surroundingWork.txsr = s.txsr := rfl
@[simp] theorem State.surroundingWork_txcnt (s : State) : s.surroundingWork.txcnt = s.txcnt := rfl
@[simp] theorem State.surroundingWork_txlast (s : State) : s.surroundingWork.txlast = s.txlast := rfl
@[simp] theorem State.surroundingWork_txline (s : State) : s.surroundingWork.txline = s.txline := rfl
@[simp] theorem State.surroundingWork_txph (s : State) : s.surroundingWork.txph = s.txph := rfl
@[simp] theorem State.surroundingWork_ie (s : State) : s.surroundingWork.ie = ieAfterWork (s.env.workAt 0) s.ie := rfl
@[simp] theorem State.surroundingWork_pend (s : State) : s.surroundingWork.pend = s.pend := rfl
@[simp] theorem State.surroundingWork_now (s : State) : s.surroundingWork.now = s.now + (s.env.workAt 0).ticks := rfl
@[simp] theorem State.surroundingWork_txhist (s : State) : s.surroundingWork.txhist = s.txhist := rfl
@[simp] theorem State.surroundingWork_rxhist (s : State) : s.surroundingWork.rxhist = s.rxhist := rfl
@[simp] theorem State.surroundingWork_host (s : State) : s.surroundingWork.host = { s.host with newLed := newestLed (s.env.workAt 0) s.host.newLed, point := s.host.point.afterOutside } := rfl
@[simp] theorem State.surroundingWork_env (s : State) : s.surroundingWork.env = s.env.skipWork := rfl
@[simp] theorem State.surroundingWork_cfg (s : State) : s.surroundingWork.cfg = s.cfg := rfl
@[simp] theorem State.surroundingWork_rx (s : State) (t : Nat) : s.surroundingWork.rx t = s.rx t := rfl

/-! ### State.noteReturn -/

@[simp] theorem State.noteReturn_rxsr (s : State) (i : Instr) : (s.noteReturn i).rxsr = s.rxsr := rfl
@[simp] theorem State.noteReturn_rxcnt (s : State) (i : Instr) : (s.noteReturn i).rxcnt = s.rxcnt := rfl
@[simp] theorem State.noteReturn_rxout (s : State) (i : Instr) : (s.noteReturn i).rxout = s.rxout := rfl
@[simp] theorem State.noteReturn_rxph (s : State) (i : Instr) : (s.noteReturn i).rxph = s.rxph := rfl
@[simp] theorem State.noteReturn_txsr (s : State) (i : Instr) : (s.noteReturn i).txsr = s.txsr := rfl
@[simp] theorem State.noteReturn_txcnt (s : State) (i : Instr) : (s.noteReturn i).txcnt = s.txcnt := rfl
@[simp] theorem State.noteReturn_txlast (s : State) (i : Instr) : (s.noteReturn i).txlast = s.txlast := rfl
@[simp] theorem State.noteReturn_txline (s : State) (i : Instr) : (s.noteReturn i).txline = s.txline := rfl
@[simp] theorem State.noteReturn_txph (s : State) (i : Instr) : (s.noteReturn i).txph = s.txph := rfl
@[simp] theorem State.noteReturn_ie (s : State) (i : Instr) : (s.noteReturn i).ie = s.ie := rfl
@[simp] theorem State.noteReturn_pend (s : State) (i : Instr) : (s.noteReturn i).pend = s.pend := rfl
@[simp] theorem State.noteReturn_now (s : State) (i : Instr) : (s.noteReturn i).now = s.now := rfl
@[simp] theorem State.noteReturn_txhist (s : State) (i : Instr) : (s.noteReturn i).txhist = s.txhist := rfl
@[simp] theorem State.noteReturn_rxhist (s : State) (i : Instr) : (s.noteReturn i).rxhist = s.rxhist := rfl
@[simp] theorem State.noteReturn_host (s : State) (i : Instr) : (s.noteReturn i).host = { s.host with point := s.host.point.afterReturn i } := rfl
@[simp] theorem State.noteReturn_env (s : State) (i : Instr) : (s.noteReturn i).env = s.env := rfl
@[simp] theorem State.noteReturn_cfg (s : State) (i : Instr) : (s.noteReturn i).cfg = s.cfg := rfl
@[simp] theorem State.noteReturn_rx (s : State) (i : Instr) (t : Nat) : (s.noteReturn i).rx t = s.rx t := rfl

/-! ### State.noteOutside -/

@[simp] theorem State.noteOutside_rxsr (s : State) : s.noteOutside.rxsr = s.rxsr := rfl
@[simp] theorem State.noteOutside_rxcnt (s : State) : s.noteOutside.rxcnt = s.rxcnt := rfl
@[simp] theorem State.noteOutside_rxout (s : State) : s.noteOutside.rxout = s.rxout := rfl
@[simp] theorem State.noteOutside_rxph (s : State) : s.noteOutside.rxph = s.rxph := rfl
@[simp] theorem State.noteOutside_txsr (s : State) : s.noteOutside.txsr = s.txsr := rfl
@[simp] theorem State.noteOutside_txcnt (s : State) : s.noteOutside.txcnt = s.txcnt := rfl
@[simp] theorem State.noteOutside_txlast (s : State) : s.noteOutside.txlast = s.txlast := rfl
@[simp] theorem State.noteOutside_txline (s : State) : s.noteOutside.txline = s.txline := rfl
@[simp] theorem State.noteOutside_txph (s : State) : s.noteOutside.txph = s.txph := rfl
@[simp] theorem State.noteOutside_ie (s : State) : s.noteOutside.ie = s.ie := rfl
@[simp] theorem State.noteOutside_pend (s : State) : s.noteOutside.pend = s.pend := rfl
@[simp] theorem State.noteOutside_now (s : State) : s.noteOutside.now = s.now := rfl
@[simp] theorem State.noteOutside_txhist (s : State) : s.noteOutside.txhist = s.txhist := rfl
@[simp] theorem State.noteOutside_rxhist (s : State) : s.noteOutside.rxhist = s.rxhist := rfl
@[simp] theorem State.noteOutside_host (s : State) : s.noteOutside.host = { s.host with point := s.host.point.afterOutside } := rfl
@[simp] theorem State.noteOutside_env (s : State) : s.noteOutside.env = s.env := rfl
@[simp] theorem State.noteOutside_cfg (s : State) : s.noteOutside.cfg = s.cfg := rfl
@[simp] theorem State.noteOutside_rx (s : State) (t : Nat) : s.noteOutside.rx t = s.rx t := rfl

/-! ### State.takeLed -/

@[simp] theorem State.takeLed_rxsr (s : State) : s.takeLed.rxsr = s.rxsr := rfl
@[simp] theorem State.takeLed_rxcnt (s : State) : s.takeLed.rxcnt = s.rxcnt := rfl
@[simp] theorem State.takeLed_rxout (s : State) : s.takeLed.rxout = s.rxout := rfl
@[simp] theorem State.takeLed_rxph (s : State) : s.takeLed.rxph = s.rxph := rfl
@[simp] theorem State.takeLed_txsr (s : State) : s.takeLed.txsr = s.txsr := rfl
@[simp] theorem State.takeLed_txcnt (s : State) : s.takeLed.txcnt = s.txcnt := rfl
@[simp] theorem State.takeLed_txlast (s : State) : s.takeLed.txlast = s.txlast := rfl
@[simp] theorem State.takeLed_txline (s : State) : s.takeLed.txline = s.txline := rfl
@[simp] theorem State.takeLed_txph (s : State) : s.takeLed.txph = s.txph := rfl
@[simp] theorem State.takeLed_ie (s : State) : s.takeLed.ie = s.ie := rfl
@[simp] theorem State.takeLed_pend (s : State) : s.takeLed.pend = s.pend := rfl
@[simp] theorem State.takeLed_now (s : State) : s.takeLed.now = s.now := rfl
@[simp] theorem State.takeLed_txhist (s : State) : s.takeLed.txhist = s.txhist := rfl
@[simp] theorem State.takeLed_rxhist (s : State) : s.takeLed.rxhist = s.rxhist := rfl
@[simp] theorem State.takeLed_host (s : State) : s.takeLed.host = { s.host with newLed := none } := rfl
@[simp] theorem State.takeLed_env (s : State) : s.takeLed.env = s.env := rfl
@[simp] theorem State.takeLed_cfg (s : State) : s.takeLed.cfg = s.cfg := rfl
@[simp] theorem State.takeLed_rx (s : State) (t : Nat) : s.takeLed.rx t = s.rx t := rfl

/-! ### State.setIE -/

@[simp] theorem State.setIE_rxsr (s : State) (b : Bool) : (s.setIE b).rxsr = s.rxsr := rfl
@[simp] theorem State.setIE_rxcnt (s : State) (b : Bool) : (s.setIE b).rxcnt = s.rxcnt := rfl
@[simp] theorem State.setIE_rxout (s : State) (b : Bool) : (s.setIE b).rxout = s.rxout := rfl
@[simp] theorem State.setIE_rxph (s : State) (b : Bool) : (s.setIE b).rxph = s.rxph := rfl
@[simp] theorem State.setIE_txsr (s : State) (b : Bool) : (s.setIE b).txsr = s.txsr := rfl
@[simp] theorem State.setIE_txcnt (s : State) (b : Bool) : (s.setIE b).txcnt = s.txcnt := rfl
@[simp] theorem State.setIE_txlast (s : State) (b : Bool) : (s.setIE b).txlast = s.txlast := rfl
@[simp] theorem State.setIE_txline (s : State) (b : Bool) : (s.setIE b).txline = s.txline := rfl
@[simp] theorem State.setIE_txph (s : State) (b : Bool) : (s.setIE b).txph = s.txph := rfl
@[simp] theorem State.setIE_ie (s : State) (b : Bool) : (s.setIE b).ie = b := by rfl
@[simp] theorem State.setIE_pend (s : State) (b : Bool) : (s.setIE b).pend = s.pend := rfl
@[simp] theorem State.setIE_now (s : State) (b : Bool) : (s.setIE b).now = s.now := rfl
@[simp] theorem State.setIE_txhist (s : State) (b : Bool) : (s.setIE b).txhist = s.txhist := rfl
@[simp] theorem State.setIE_rxhist (s : State) (b : Bool) : (s.setIE b).rxhist = s.rxhist := rfl
@[simp] theorem State.setIE_host (s : State) (b : Bool) : (s.setIE b).host = s.host := rfl
@[simp] theorem State.setIE_env (s : State) (b : Bool) : (s.setIE b).env = s.env := rfl
@[simp] theorem State.setIE_cfg (s : State) (b : Bool) : (s.setIE b).cfg = s.cfg := rfl
@[simp] theorem State.setIE_rx (s : State) (b : Bool) (t : Nat) : (s.setIE b).rx t = s.rx t := rfl

/-! ### State.maskInterrupts -/

@[simp] theorem State.maskInterrupts_rxsr (s : State) : s.maskInterrupts.rxsr = s.rxsr := rfl
@[simp] theorem State.maskInterrupts_rxcnt (s : State) : s.maskInterrupts.rxcnt = s.rxcnt := rfl
@[simp] theorem State.maskInterrupts_rxout (s : State) : s.maskInterrupts.rxout = s.rxout := rfl
@[simp] theorem State.maskInterrupts_rxph (s : State) : s.maskInterrupts.rxph = s.rxph := rfl
@[simp] theorem State.maskInterrupts_txsr (s : State) : s.maskInterrupts.txsr = s.txsr := rfl
@[simp] theorem State.maskInterrupts_txcnt (s : State) : s.maskInterrupts.txcnt = s.txcnt := rfl
@[simp] theorem State.maskInterrupts_txlast (s : State) : s.maskInterrupts.txlast = s.txlast := rfl
@[simp] theorem State.maskInterrupts_txline (s : State) : s.maskInterrupts.txline = s.txline := rfl
@[simp] theorem State.maskInterrupts_txph (s : State) : s.maskInterrupts.txph = s.txph := rfl
@[simp] theorem State.maskInterrupts_ie (s : State) : s.maskInterrupts.ie = false := by rfl
@[simp] theorem State.maskInterrupts_pend (s : State) : s.maskInterrupts.pend = s.pend := rfl
@[simp] theorem State.maskInterrupts_now (s : State) : s.maskInterrupts.now = s.now := rfl
@[simp] theorem State.maskInterrupts_txhist (s : State) : s.maskInterrupts.txhist = s.txhist := rfl
@[simp] theorem State.maskInterrupts_rxhist (s : State) : s.maskInterrupts.rxhist = s.rxhist := rfl
@[simp] theorem State.maskInterrupts_host (s : State) : s.maskInterrupts.host = s.host := rfl
@[simp] theorem State.maskInterrupts_env (s : State) : s.maskInterrupts.env = s.env := rfl
@[simp] theorem State.maskInterrupts_cfg (s : State) : s.maskInterrupts.cfg = s.cfg := rfl
@[simp] theorem State.maskInterrupts_rx (s : State) (t : Nat) : s.maskInterrupts.rx t = s.rx t := rfl

/-! ### State.releaseInterrupts -/

@[simp] theorem State.releaseInterrupts_rxsr (s : State) : s.releaseInterrupts.rxsr = s.rxsr := rfl
@[simp] theorem State.releaseInterrupts_rxcnt (s : State) : s.releaseInterrupts.rxcnt = s.rxcnt := rfl
@[simp] theorem State.releaseInterrupts_rxout (s : State) : s.releaseInterrupts.rxout = s.rxout := rfl
@[simp] theorem State.releaseInterrupts_rxph (s : State) : s.releaseInterrupts.rxph = s.rxph := rfl
@[simp] theorem State.releaseInterrupts_txsr (s : State) : s.releaseInterrupts.txsr = s.txsr := rfl
@[simp] theorem State.releaseInterrupts_txcnt (s : State) : s.releaseInterrupts.txcnt = s.txcnt := rfl
@[simp] theorem State.releaseInterrupts_txlast (s : State) : s.releaseInterrupts.txlast = s.txlast := rfl
@[simp] theorem State.releaseInterrupts_txline (s : State) : s.releaseInterrupts.txline = s.txline := rfl
@[simp] theorem State.releaseInterrupts_txph (s : State) : s.releaseInterrupts.txph = s.txph := rfl
@[simp] theorem State.releaseInterrupts_ie (s : State) : s.releaseInterrupts.ie = true := by rfl
@[simp] theorem State.releaseInterrupts_pend (s : State) : s.releaseInterrupts.pend = s.pend := rfl
@[simp] theorem State.releaseInterrupts_now (s : State) : s.releaseInterrupts.now = s.now := rfl
@[simp] theorem State.releaseInterrupts_txhist (s : State) : s.releaseInterrupts.txhist = s.txhist := rfl
@[simp] theorem State.releaseInterrupts_rxhist (s : State) : s.releaseInterrupts.rxhist = s.rxhist := rfl
@[simp] theorem State.releaseInterrupts_host (s : State) : s.releaseInterrupts.host = s.host := rfl
@[simp] theorem State.releaseInterrupts_env (s : State) : s.releaseInterrupts.env = s.env := rfl
@[simp] theorem State.releaseInterrupts_cfg (s : State) : s.releaseInterrupts.cfg = s.cfg := rfl
@[simp] theorem State.releaseInterrupts_rx (s : State) (t : Nat) : s.releaseInterrupts.rx t = s.rx t := rfl

/-! ### State.acceptCode -/

@[simp] theorem State.acceptCode_rxsr (s : State) (c : Byte) : (s.acceptCode c).rxsr = s.rxsr := by
  unfold State.acceptCode; split <;> rfl
@[simp] theorem State.acceptCode_rxcnt (s : State) (c : Byte) : (s.acceptCode c).rxcnt = s.rxcnt := by
  unfold State.acceptCode; split <;> rfl
@[simp] theorem State.acceptCode_rxout (s : State) (c : Byte) : (s.acceptCode c).rxout = s.rxout := by
  unfold State.acceptCode; split <;> rfl
@[simp] theorem State.acceptCode_rxph (s : State) (c : Byte) : (s.acceptCode c).rxph = s.rxph := by
  unfold State.acceptCode; split <;> rfl
@[simp] theorem State.acceptCode_txsr (s : State) (c : Byte) : (s.acceptCode c).txsr = s.txsr := by
  unfold State.acceptCode; split <;> rfl
@[simp] theorem State.acceptCode_txcnt (s : State) (c : Byte) : (s.acceptCode c).txcnt = s.txcnt := by
  unfold State.acceptCode; split <;> rfl
@[simp] theorem State.acceptCode_txlast (s : State) (c : Byte) : (s.acceptCode c).txlast = s.txlast := by
  unfold State.acceptCode; split <;> rfl
@[simp] theorem State.acceptCode_txline (s : State) (c : Byte) : (s.acceptCode c).txline = s.txline := by
  unfold State.acceptCode; split <;> rfl
@[simp] theorem State.acceptCode_txph (s : State) (c : Byte) : (s.acceptCode c).txph = s.txph := by
  unfold State.acceptCode; split <;> rfl
@[simp] theorem State.acceptCode_ie (s : State) (c : Byte) : (s.acceptCode c).ie = s.ie := by
  unfold State.acceptCode; split <;> rfl
@[simp] theorem State.acceptCode_pend (s : State) (c : Byte) : (s.acceptCode c).pend = s.pend := by
  unfold State.acceptCode; split <;> rfl
@[simp] theorem State.acceptCode_now (s : State) (c : Byte) : (s.acceptCode c).now = s.now := by
  unfold State.acceptCode; split <;> rfl
@[simp] theorem State.acceptCode_txhist (s : State) (c : Byte) : (s.acceptCode c).txhist = s.txhist := by
  unfold State.acceptCode; split <;> rfl
@[simp] theorem State.acceptCode_rxhist (s : State) (c : Byte) : (s.acceptCode c).rxhist = s.rxhist := by
  unfold State.acceptCode; split <;> rfl
@[simp] theorem State.acceptCode_env (s : State) (c : Byte) : (s.acceptCode c).env = s.env := by
  unfold State.acceptCode; split <;> rfl
@[simp] theorem State.acceptCode_cfg (s : State) (c : Byte) : (s.acceptCode c).cfg = s.cfg := by
  unfold State.acceptCode; split <;> rfl
@[simp] theorem State.acceptCode_host_queue (s : State) (c : Byte) : (s.acceptCode c).host.queue = s.host.queue := by
  unfold State.acceptCode; split <;> rfl
@[simp] theorem State.acceptCode_host_result (s : State) (c : Byte) : (s.acceptCode c).host.result = s.host.result := by
  unfold State.acceptCode; split <;> rfl
@[simp] theorem State.acceptCode_host_loop (s : State) (c : Byte) : (s.acceptCode c).host.loop = s.host.loop := by
  unfold State.acceptCode; split <;> rfl
@[simp] theorem State.acceptCode_host_newLed (s : State) (c : Byte) : (s.acceptCode c).host.newLed = s.host.newLed := by
  unfold State.acceptCode; split <;> rfl
@[simp] theorem State.acceptCode_host_point (s : State) (c : Byte) : (s.acceptCode c).host.point = s.host.point := by
  unfold State.acceptCode; split <;> rfl

end Sys2Proof.Machine
end

