-- ==== Sys2Proof/Laws/Ops.lean ====
section
/-! SUPPORT. One lemma per shared operation that says what it can do, for the provers to cite in place of unfolding it. -/

namespace Sys2Proof

/-! ### Waves -/

@[simp] theorem Wave.lastAt_nil (t : Nat) : Wave.lastAt [] t = none := rfl

theorem Wave.lastAt_cons (u : Nat) (l : Level) (w : Wave) (t : Nat) :
    Wave.lastAt ((u, l) :: w) t = ((Wave.lastAt w t).or (if u ≤ t then some l else none)) := by
  simp only [Wave.lastAt]
  cases Wave.lastAt w t <;> rfl

/-- What a wave shows is what its later part shows, else what its earlier part shows. -/
theorem Wave.lastAt_append (v w : Wave) (t : Nat) :
    Wave.lastAt (v ++ w) t = (Wave.lastAt w t).or (Wave.lastAt v t) := by
  induction v with
  | nil => simp
  | cons e v ih =>
    obtain ⟨u, l⟩ := e
    rw [List.cons_append, Wave.lastAt_cons, ih, Wave.lastAt_cons, Option.or_assoc]

/-- Before its first entry a wave shows nothing. -/
theorem Wave.lastAt_eq_none_of_lt (w : Wave) (t : Nat) (h : ∀ e ∈ w, t < e.1) : Wave.lastAt w t = none := by
  induction w with
  | nil => rfl
  | cons e w ih =>
    obtain ⟨u, l⟩ := e
    have hu : ¬u ≤ t := Nat.not_le.mpr (h (u, l) List.mem_cons_self)
    rw [Wave.lastAt_cons, ih fun e he => h e (List.mem_cons_of_mem _ he)]
    simp [hu]

/-- From its last entry on a wave shows the level of that entry. -/
theorem Wave.lastAt_concat_of_le (w : Wave) (u : Nat) (l : Level) (t : Nat) (h : u ≤ t) :
    Wave.lastAt (w ++ [(u, l)]) t = some l := by
  simp [Wave.lastAt_append, Wave.lastAt_cons, h]

/-- A wave seen through an inverter. -/
theorem Wave.lastAt_map_inv (w : Wave) (t : Nat) :
    Wave.lastAt (w.map fun e => (e.1, e.2.inv)) t = (Wave.lastAt w t).map Level.inv := by
  induction w with
  | nil => rfl
  | cons e w ih =>
    obtain ⟨u, l⟩ := e
    rw [List.map_cons, Wave.lastAt_cons, Wave.lastAt_cons, ih]
    cases Wave.lastAt w t <;> simp

/-! ### Levels and bits -/

@[simp] theorem Level.inv_inv (l : Level) : l.inv.inv = l := by cases l <;> rfl
@[simp] theorem Level.toBit_inv (l : Level) : l.inv.toBit = !l.toBit := by cases l <;> rfl
@[simp] theorem Level.toBit_ofBit (b : Bool) : (Level.ofBit b).toBit = b := by cases b <;> rfl
@[simp] theorem Level.ofBit_toBit (l : Level) : Level.ofBit l.toBit = l := by cases l <;> rfl

end Sys2Proof

namespace Sys2Proof.Machine

/-! ### Actions in order -/

@[simp] theorem runActions_nil (s : State) : runActions [] s = s := rfl

@[simp] theorem runActions_cons (a : Action) (as : List Action) (s : State) :
    runActions (a :: as) s = runActions as (a s) := rfl

/-- Two lists of actions in a row. -/
theorem runActions_append (as bs : List Action) (s : State) :
    runActions (as ++ bs) s = runActions bs (runActions as s) := by
  induction as generalizing s with
  | nil => rfl
  | cons a as ih => exact ih (a s)

/-- What every action of a list keeps, the list keeps. -/
theorem runActions_keeps {α : Type} (f : State → α) (as : List Action) (h : ∀ a ∈ as, ∀ s, f (a s) = f s) (s : State) :
    f (runActions as s) = f s := by
  induction as generalizing s with
  | nil => rfl
  | cons a as ih =>
    rw [runActions_cons, ih fun b hb => h b (List.mem_cons_of_mem _ hb)]
    exact h a List.mem_cons_self s

/-! ### Interrupt points -/

@[simp] theorem irqAt_skipIrqs (e : Environment) (n k : Nat) : (e.skipIrqs n).irqAt k = e.irqAt (n + k) := by
  simp [Environment.irqAt, List.getElem?_drop, Nat.add_assoc]

@[simp] theorem skipIrqs_skipIrqs (e : Environment) (m n : Nat) : (e.skipIrqs m).skipIrqs n = e.skipIrqs (m + n) := by
  simp [Environment.skipIrqs, List.drop_drop, Nat.add_assoc]

@[simp] theorem skipIrqs_zero (e : Environment) : e.skipIrqs 0 = e := rfl

/-- Under the mask no service takes time (R205). -/
theorem stretch_of_masked (s : State) (h : s.ie = false) : s.stretch = 0 := by
  simp [State.stretch, serviceTicks, h]

/-- Under the mask arriving requests are held (R205). -/
theorem pendAfter_of_masked (s : State) (h : s.ie = false) : s.pendAfter = s.pend + (s.env.irqAt 0).arrivals := by
  simp [State.pendAfter, heldAfter, h]

/-- Under the mask an interrupt point takes no time and holds what arrives (R205). -/
theorem interruptPoint_of_masked (s : State) (h : s.ie = false) :
    s.interruptPoint = { s with pend := s.pend + (s.env.irqAt 0).arrivals, env := s.env.skipIrqs 1 } := by
  simp [State.interruptPoint, stretch_of_masked s h, pendAfter_of_masked s h]

/-- With nothing held and nothing arriving, no time passes (R148). -/
theorem stretch_of_nothing_held (s : State) (hp : s.pend = 0) (ha : (s.env.irqAt 0).arrivals = 0) : s.stretch = 0 := by
  simp [State.stretch, serviceTicks, hp, ha]

/-- The stretch and what is held after it depend on IE, on what is held and on the environment alone. -/
theorem stretch_congr (s t : State) (hi : s.ie = t.ie) (hp : s.pend = t.pend) (he : s.env = t.env) :
    s.stretch = t.stretch ∧ s.pendAfter = t.pendAfter := by
  simp [State.stretch, State.pendAfter, hi, hp, he]

/-- The total stretch depends on IE, on what is held and on the environment alone. -/
theorem stretchOver_congr (n : Nat) (s t : State) (hi : s.ie = t.ie) (hp : s.pend = t.pend) (he : s.env = t.env) :
    State.stretchOver n s = State.stretchOver n t ∧
      (State.interruptPoints n s).pend = (State.interruptPoints n t).pend := by
  induction n generalizing s t with
  | zero => exact ⟨rfl, hp⟩
  | succ n ih =>
    obtain ⟨hs, hq⟩ := stretch_congr s t hi hp he
    obtain ⟨h1, h2⟩ := ih s.interruptPoint t.interruptPoint hi (by simpa using hq) (by simp [he])
    exact ⟨by simp [State.stretchOver, hs, h1], h2⟩

/-- One interrupt point more adds the stretch of the last one. -/
theorem stretchOver_succ (n : Nat) (s : State) :
    State.stretchOver (n + 1) s = State.stretchOver n s + (State.interruptPoints n s).stretch := by
  induction n generalizing s with
  | zero => simp [State.stretchOver, State.interruptPoints]
  | succ n ih =>
    rw [State.stretchOver, ih s.interruptPoint, State.stretchOver, State.interruptPoints, Nat.add_assoc]

/-- One interrupt point more, at the end. -/
theorem interruptPoints_succ (n : Nat) (s : State) :
    State.interruptPoints (n + 1) s = (State.interruptPoints n s).interruptPoint := by
  induction n generalizing s with
  | zero => rfl
  | succ n ih => exact ih s.interruptPoint

/-- Interrupt points pass time by their total stretch, use up their draws, and keep IE. -/
theorem interruptPoints_spec (n : Nat) (s : State) :
    (State.interruptPoints n s).ie = s.ie ∧ (State.interruptPoints n s).env = s.env.skipIrqs n ∧
      (State.interruptPoints n s).now = s.now + State.stretchOver n s := by
  induction n with
  | zero => exact ⟨rfl, rfl, rfl⟩
  | succ n ih =>
    obtain ⟨h1, h2, h3⟩ := ih
    rw [interruptPoints_succ, stretchOver_succ]
    refine ⟨by simpa using h1, by simp [h2], by simp [h3, Nat.add_assoc]⟩

/-- Under the mask the total stretch is zero (R55, R144). -/
theorem stretchOver_of_masked (n : Nat) (s : State) (h : s.ie = false) : State.stretchOver n s = 0 := by
  induction n generalizing s with
  | zero => rfl
  | succ n ih => simp [State.stretchOver, stretch_of_masked s h, ih s.interruptPoint (by simpa using h)]

/-- The total stretch grows with the number of points (R55). -/
theorem stretchOver_le_succ (n : Nat) (s : State) : State.stretchOver n s ≤ State.stretchOver (n + 1) s := by
  rw [stretchOver_succ]; exact Nat.le_add_right _ _

/-- Every operation's DELAY, once over: time passes by n and by the stretch. -/
theorem delay_eq (n : Nat) (s : State) :
    s.delay n = { s with pend := s.pendAfter, now := s.now + n + s.stretch, env := s.env.skipIrqs 1 } := rfl

/-- Under the mask a delay is exact (R113). -/
theorem delay_of_masked (n : Nat) (s : State) (h : s.ie = false) :
    s.delay n = { s with
      pend := s.pend + (s.env.irqAt 0).arrivals, now := s.now + n, env := s.env.skipIrqs 1 } := by
  rw [delay_eq, stretch_of_masked s h, pendAfter_of_masked s h, Nat.add_zero]

/-! ### The host side -/

/-- What follows an operation happens exactly where the operation completed. -/
theorem andThen_eq_next (o : Host.Outcome State Fault Refusal) (f : State → State) (t : State) :
    andThen o f = .next t ↔ ∃ u, o = .next u ∧ f u = t := by
  cases o <;> simp [andThen]

theorem andThen_eq_refused (o : Host.Outcome State Fault Refusal) (f : State → State) (r : Refusal) :
    andThen o f = .refused r ↔ o = .refused r := by
  cases o <;> simp [andThen]

@[simp] theorem andThen_next (u : State) (f : State → State) : andThen (.next u) f = .next (f u) := rfl

/-- A received code is either counted or handed on (R186). -/
theorem acceptCode_cases (c : Byte) (s : State) :
    (s.host.reportsSeen.toNat < s.cfg.warmupFrames ∧
      s.acceptCode c = { s with host := { s.host with reportsSeen := s.host.reportsSeen + 1 } }) ∨
    (s.cfg.warmupFrames ≤ s.host.reportsSeen.toNat ∧
      s.acceptCode c = { s with host := { s.host with delivered := s.host.delivered ++ [c] } }) := by
  unfold State.acceptCode
  split
  · exact .inl ⟨‹_›, rfl⟩
  · exact .inr ⟨Nat.le_of_not_lt ‹_›, rfl⟩

/-- An explicit call either names an operation, which then runs, or is refused by name. -/
theorem invoke_cases (c : Call) (s : State) :
    (∃ i, decodeCall c = .ok i ∧ invoke c s = andThen (exec i s) (fun t => (t.noteReturn i).interruptPoint)) ∨
      ∃ e, decodeCall c = .error e ∧ invoke c s = .refused (refusalOf e) := by
  unfold invoke
  cases h : decodeCall c with
  | ok i => exact .inl ⟨i, rfl, rfl⟩
  | error e => exact .inr ⟨e, rfl, rfl⟩

/-- The LED update of an idle iteration: nothing is sent, or the byte held is taken and one update sent (R168). -/
theorem updateLeds_cases (s : State) :
    (s.host.newLed = none ∧ updateLeds s = .next s) ∨
      ∃ b, s.host.newLed = some b ∧ updateLeds s =
        andThen (exec (.cmdLedUpdate ((ledMask s.cfg b).setWidth 8)) s.takeLed)
          (State.noteReturn (.cmdLedUpdate ((ledMask s.cfg b).setWidth 8))) := by
  unfold updateLeds
  cases h : s.host.newLed with
  | none => exact .inl ⟨rfl, rfl⟩
  | some b => exact .inr ⟨b, rfl, rfl⟩

/-- Boot is over once an operation other than WRITE_PIN has returned (R236). -/
theorem afterReturn_eq_boot (p : HostPoint) (i : Instr) (h : p.afterReturn i = .boot) :
    p = .boot ∧ ∃ v, i = .writePin v := by
  cases p <;> cases i <;> simp_all [HostPoint.afterReturn]

/-- The point names the operation that returned last, unless boot lasts. -/
theorem afterReturn_eq_returned (p : HostPoint) (i j : Instr) (h : p.afterReturn i = .returned j) : j = i := by
  cases p <;> cases i <;> simp_all [HostPoint.afterReturn]

/-- After something outside the block no operation has just returned. -/
@[simp] theorem afterOutside_ne_returned (p : HostPoint) (i : Instr) : p.afterOutside ≠ .returned i := by
  cases p <;> simp [HostPoint.afterOutside]

theorem afterOutside_eq_boot (p : HostPoint) : p.afterOutside = .boot ↔ p = .boot := by
  cases p <;> simp [HostPoint.afterOutside]

/-- What a step can do: MainLoop's next action where the host has asked for nothing, else the host's next action. -/
theorem step_cases (s : State) :
    (s.host.queue = [] ∧ step s = loopStep s) ∨
      ∃ a rest, s.host.queue = a :: rest ∧ step s = runHostAction a (s.setQueue rest) := by
  unfold step hostStep
  cases h : s.host.queue with
  | nil => exact .inl ⟨rfl, rfl⟩
  | cons a rest => exact .inr ⟨a, rest, rfl, rfl⟩

end Sys2Proof.Machine
end

