-- ==== Sys2Proof/Laws/Frames.lean ====
section
/-! SUPPORT. What the writes of one outbound frame make the line show, and where the samples of an inbound one fall. -/

namespace Sys2Proof.Machine

/-! ### The writes of a frame, by number -/

theorem frameWrites_start (c : Params) (ts : Nat) (v : Byte) : (frameWrites c ts v)[0]? = some (ts, c.txStartLevel) := rfl

theorem frameWrites_data (c : Params) (ts : Nat) (v : Byte) (k : Nat) (hk : k < 7) :
    (frameWrites c ts v)[k + 1]? = some (ts + (c.txStartCells + k) * c.tpb, dataLevel c v ⟨k, hk⟩) := by
  interval_cases k <;> simp [frameWrites]

theorem frameWrites_stop (c : Params) (ts : Nat) (v : Byte) :
    (frameWrites c ts v)[8]? = some (ts + (c.txStartCells + 7) * c.tpb, c.txStopLevel) := rfl

/-- When each write after the first is made. -/
theorem frameWrites_tick (c : Params) (ts : Nat) (v : Byte) (k : Nat) (e : Nat × Level) (h0 : 0 < k)
    (h : (frameWrites c ts v)[k]? = some e) : e.1 = ts + (c.txStartCells + (k - 1)) * c.tpb := by
  have hk : k < 9 := (List.getElem?_eq_some_iff.1 h).1
  interval_cases k <;> simp [frameWrites] at h <;> subst h <;> simp

/-! ### What the line shows -/

/-- An entry of a wave is what it shows until a later entry takes over. -/
theorem lastAt_append_of_getElem? (h w : Wave) (u j : Nat) (e : Nat × Level) (hj : w[j]? = some e) (he : e.1 ≤ u)
    (hl : ∀ k e', j < k → w[k]? = some e' → u < e'.1) : (h ++ w).lastAt u = some e.2 := by
  have hsplit : w = w.take j ++ [e] ++ w.drop (j + 1) := by
    rw [← (List.getElem?_eq_some_iff.1 hj).2]; simp
  rw [hsplit, ← List.append_assoc, ← List.append_assoc, Wave.lastAt_append, Wave.lastAt_eq_none_of_lt, Option.none_or]
  · exact Wave.lastAt_concat_of_le (h ++ w.take j) e.1 e.2 u he
  · intro e' hm
    rw [List.mem_iff_getElem?] at hm
    obtain ⟨k, hk⟩ := hm
    rw [List.getElem?_drop] at hk
    exact hl _ e' (by omega) hk

/-- During the start pulse. -/
theorem lastAt_frame_start (h : Wave) (c : Params) (ts : Nat) (v : Byte) (u : Nat) (h1 : ts ≤ u)
    (h2 : u < ts + c.txStartCells * c.tpb) : (h ++ frameWrites c ts v).lastAt u = some c.txStartLevel := by
  refine lastAt_append_of_getElem? h _ u 0 _ (frameWrites_start c ts v) h1 fun k e hk he => ?_
  rw [frameWrites_tick c ts v k e (by omega) he]
  have : c.txStartCells * c.tpb ≤ (c.txStartCells + (k - 1)) * c.tpb := Nat.mul_le_mul_right _ (by omega)
  omega

/-- During data cell `k`. -/
theorem lastAt_frame_data (h : Wave) (c : Params) (ts : Nat) (v : Byte) (u k : Nat) (hk : k < 7)
    (h1 : ts + (c.txStartCells + k) * c.tpb ≤ u) (h2 : u < ts + (c.txStartCells + k + 1) * c.tpb) :
    (h ++ frameWrites c ts v).lastAt u = some (dataLevel c v ⟨k, hk⟩) := by
  refine lastAt_append_of_getElem? h _ u (k + 1) _ (frameWrites_data c ts v k hk) h1 fun k' e hk' he => ?_
  rw [frameWrites_tick c ts v k' e (by omega) he]
  have : (c.txStartCells + k + 1) * c.tpb ≤ (c.txStartCells + (k' - 1)) * c.tpb := Nat.mul_le_mul_right _ (by omega)
  omega

/-- From the stop pattern on. -/
theorem lastAt_frame_stop (h : Wave) (c : Params) (ts : Nat) (v : Byte) (u : Nat)
    (h1 : ts + (c.txStartCells + 7) * c.tpb ≤ u) : (h ++ frameWrites c ts v).lastAt u = some c.txStopLevel := by
  refine lastAt_append_of_getElem? h _ u 8 _ (frameWrites_stop c ts v) h1 fun k e hk he => ?_
  have : k < 9 := (List.getElem?_eq_some_iff.1 he).1
  omega

/-- Before the frame. -/
theorem lastAt_frame_before (h : Wave) (c : Params) (ts : Nat) (v : Byte) (u : Nat) (h1 : u < ts) :
    (h ++ frameWrites c ts v).lastAt u = h.lastAt u := by
  rw [Wave.lastAt_append, Wave.lastAt_eq_none_of_lt, Option.none_or]
  intro e he
  rw [List.mem_iff_getElem?] at he
  obtain ⟨k, hk⟩ := he
  rcases Nat.eq_zero_or_pos k with rfl | h0
  · rw [frameWrites_start] at hk
    obtain rfl := Option.some.inj hk
    exact h1
  · rw [frameWrites_tick c ts v k e h0 hk]; omega

/-! ### Sampling instants -/

/-- The total stretch never falls (R55). -/
theorem stretchOver_mono (s : State) {a b : Nat} (h : a ≤ b) : State.stretchOver a s ≤ State.stretchOver b s := by
  induction h with
  | refl => exact Nat.le_refl _
  | step _ ih => exact ih.trans (stretchOver_le_succ _ s)

/-- The sampling instants never go back, and none lies before the call (R64). -/
theorem sampleInstant_le_succ (s : State) (k : Nat) : s.now ≤ sampleInstant s k ∧ sampleInstant s k ≤ sampleInstant s (k + 1) := by
  refine ⟨by unfold sampleInstant; omega, ?_⟩
  have h2 : (k + 1) * s.cfg.tpb = k * s.cfg.tpb + s.cfg.tpb := Nat.succ_mul _ _
  unfold sampleInstant delaysBefore
  split
  · have := stretchOver_mono s (Nat.le_add_right k 1); omega
  · have := stretchOver_mono s (Nat.le_add_right (k + 1) 1); omega

end Sys2Proof.Machine
end

