-- ==== Sys2Proof/Laws/PerInstr.lean ====
section
/-! SUPPORT. Statements made per instruction: one lemma per constructor. -/

namespace Sys2Proof

theorem bitOperand_toNat (b : Bool) : bitOperand b.toNat = some b := by cases b <;> rfl

theorem byteOperand_toNat (b : Byte) : byteOperand b.toNat = some b := by
  have h : b.toNat < 256 := b.isLt
  simp [byteOperand, h]

end Sys2Proof

namespace Sys2Proof.Laws.NamedCall

/-- Calling an instruction by its name and its operands (R100) asks for that instruction, whatever the operands are. -/
def Statement (i : Instr) : Prop := decodeCall i.namedCall = .ok i

theorem readPin : Statement .readPin := rfl

theorem writePin (v : Level) : Statement (.writePin v) := by cases v <;> rfl

theorem delay (n : Nat) : Statement (.delay n) := rfl

theorem startDetect : Statement .startDetect := rfl

theorem decodeFrame : Statement .decodeFrame := rfl

theorem sendByte (value : Byte) (isLast : Bool) : Statement (.sendByte value isLast) := by
  simp only [Statement, Instr.namedCall, decodeCall, decodeNamed, byteOperand_toNat, bitOperand_toNat]

theorem cmdReset : Statement .cmdReset := rfl

theorem cmdBellOn : Statement .cmdBellOn := rfl

theorem cmdBellOff : Statement .cmdBellOff := rfl

theorem cmdClickOn : Statement .cmdClickOn := rfl

theorem cmdClickOff : Statement .cmdClickOff := rfl

theorem cmdLedUpdate (m : Byte) : Statement (.cmdLedUpdate m) := by
  simp only [Statement, Instr.namedCall, decodeCall, decodeNamed, byteOperand_toNat]

theorem cmdLayoutQuery : Statement .cmdLayoutQuery := rfl

end Sys2Proof.Laws.NamedCall
end

