-- ==== Sys2Proof/Tests/Slice0.lean ====
section
/-! SUPPORT. The author's own tests. Expected values come from spec/95_test_vectors.md (the vector is named), from R93 and R100,
or by hand from the rule named; none was taken from the model. The witness theorems show that the premises of a statement of
Certificates/Slice0/Obligations.lean can be met together. -/

namespace Sys2Proof.Tests

open Sys2Proof.Machine

/-! ### Small states -/

/-- The state that an outcome goes on to. -/
def after (o : Host.Outcome State Fault Refusal) : Option State :=
  match o with
  | .next t => some t
  | .fault _ => none
  | .refused _ => none

/-- No service. -/
def calm : IrqDraw := ⟨0, 0, 0⟩

/-- A service of `j` ticks for a request arriving just then. -/
def burst (j : Nat) : IrqDraw := ⟨1, 0, j⟩

/-- The default parameters, with values that can be evaluated for the two pins and for the open number of reads. -/
def p0 : Params := { Params.default with pinRx := 0, pinTx := 1, bit0NinthRead := false }

/-- First use at tick `now`, with a given mask, inbound line and draws. -/
def at_ (now : Nat) (ie : Bool) (line : Wave) (draws : List IrqDraw) : State :=
  { State.resetWith p0 with
    now := now, ie := ie
    env := { rxWave := line, irqs := draws, irqCount := 0, work := [], workCount := 0 } }

/-- Section 2.1 of the vectors: the ideal frame of 0x4D with start edge at tick 10. -/
def line4D : Wave :=
  [(0, .high), (10, .low), (14, .high), (16, .low), (20, .high), (24, .low), (26, .high)]

/-- Masked, at tick 10, on that line. -/
def s10 : State := at_ 10 false line4D []

/-- Interrupts enabled, at tick 10, on that line, nine calm points. -/
def e10 : State := at_ 10 true line4D (List.replicate 10 calm)

/-- The same host with requests waiting. -/
def asking (q : List HostAction) (s : State) : State := s.setQueue q

/-! ### WellFormed: each check refuses a term that breaks it -/

theorem test_default_wellFormed : p0.wellFormed = true := by decide
theorem test_refuses_one_pin_for_both : { p0 with pinTx := 0 }.wellFormed = false := by decide
theorem test_refuses_tpb_below_two : { p0 with tpb := 0 }.wellFormed = false := by decide
theorem test_refuses_odd_tpb : { p0 with tpb := 3 }.wellFormed = false := by decide
theorem test_refuses_no_keyboard_stop : { p0 with kbdStopCells := 0 }.wellFormed = false := by decide
theorem test_refuses_start_at_idle_level : { p0 with txStartLevel := .low }.wellFormed = false := by decide
theorem test_refuses_no_start_cell : { p0 with txStartCells := 0 }.wellFormed = false := by decide
theorem test_refuses_stop_off_idle_level : { p0 with txStopLevel := .high }.wellFormed = false := by decide
theorem test_refuses_no_short_stop : { p0 with stopShortCells := 0 }.wellFormed = false := by decide
theorem test_refuses_short_not_below_long : { p0 with stopShortCells := 2 }.wellFormed = false := by decide
theorem test_refuses_eight_bit_led_operand : (Instr.cmdLedUpdate 0x80).wellFormed = false := by decide
theorem test_accepts_seven_bit_led_operand : (Instr.cmdLedUpdate 0x7F).wellFormed = true := by decide

/-! ### Decoding: the words of R93 bit by bit, the calls of R100 -/

theorem test_decodes_reset : decodeTableWord 8 0b0000001 = some .cmdReset := by decide
theorem test_decodes_bell_on : decodeTableWord 8 0b0000010 = some .cmdBellOn := by decide
theorem test_decodes_bell_off : decodeTableWord 8 0b0000011 = some .cmdBellOff := by decide
theorem test_decodes_click_on : decodeTableWord 8 0b0001010 = some .cmdClickOn := by decide
theorem test_decodes_click_off : decodeTableWord 8 0b0001011 = some .cmdClickOff := by decide
/-- First byte 0001110, second byte 1010101. -/
theorem test_decodes_led : decodeTableWord 16 0b1010101_00001110 = some (.cmdLedUpdate 0b1010101) := by decide
theorem test_decodes_layout : decodeTableWord 8 0b0001111 = some .cmdLayoutQuery := by decide
/-- The mask of the table is 0x7F. -/
theorem test_ignores_opcode_bit_7 : decodeTableWord 8 0b10001011 = some .cmdClickOff := by decide
theorem test_ignores_led_operand_bit_7 : decodeTableWord 16 0x880E = some (.cmdLedUpdate 0x08) := by decide
/-- R95. -/
theorem test_rejects_unassigned : decodeCall (.native 0x84 0) = .error (.unassignedOpcode 0x04) := by decide

theorem test_calls_read_pin : decodeCall (.named .readPin []) = .ok .readPin := by decide
theorem test_calls_write_pin : decodeCall (.named .writePin [1]) = .ok (.writePin .high) := by decide
theorem test_calls_delay : decodeCall (.named .delay [300]) = .ok (.delay 300) := by decide
theorem test_calls_start_detect : decodeCall (.named .startDetect []) = .ok .startDetect := by decide
theorem test_calls_decode_frame : decodeCall (.named .decodeFrame []) = .ok .decodeFrame := by decide
theorem test_calls_send_byte : decodeCall (.named .sendByte [0x55, 0]) = .ok (.sendByte 0x55 false) := by decide
theorem test_calls_led_by_name : decodeCall (.named .cmdLedUpdate [0x88]) = .ok (.cmdLedUpdate 0x88) := by decide
theorem test_rejects_wide_level : decodeCall (.named .writePin [2]) = .error (.wrongOperands .writePin) := by decide
theorem test_rejects_wide_value : decodeCall (.named .sendByte [256, 1]) = .error (.wrongOperands .sendByte) := by decide
theorem test_rejects_missing_operand : decodeCall (.named .delay []) = .error (.wrongOperands .delay) := by decide
theorem test_rejects_extra_operand : decodeCall (.named .cmdReset [0]) = .error (.wrongOperands .cmdReset) := by decide

/-! ### LineSampler (section 2.5) -/

/-- P1v. -/
theorem test_read_pin_low : (after (exec .readPin s10)).map (fun t => (t.host.result, t.now)) = some (.level .low, 10) := by
  decide
/-- P2v: the line is still idle at tick 9. -/
theorem test_start_detect_idle :
    (after (exec .startDetect (at_ 9 true line4D []))).map (·.host.result) = some (.truth false) := by decide
/-- P3v. -/
theorem test_start_detect_active : (after (exec .startDetect s10)).map (·.host.result) = some (.truth true) := by decide
/-- P4v: TXLINE = 0 at tick 5; tx(4) = 0, tx(5) = 1. -/
theorem test_write_pin : (after (exec (.writePin .high) (at_ 5 true [] []))).map
    (fun t => (t.txline, t.tx 4, t.tx 5, t.now)) = some (.high, .low, .high, 5) := by decide
/-- P6v. -/
theorem test_delay_masked : (after (exec (.delay 2) (at_ 7 false [] []))).map (·.now) = some 9 := by decide
/-- P7v. -/
theorem test_delay_stretched : (after (exec (.delay 2) (at_ 7 true [] [burst 3]))).map (·.now) = some 12 := by decide

/-! ### DECODE_FRAME (section 2.1) -/

/-- RT1, RX1b: on entry RXSR is 0xFF; the result is 0x4D, at tick 28. -/
theorem test_decode_RT1 : (after (exec .decodeFrame { s10 with rxsr := 0xFF })).map
    (fun t => (t.rxout, t.now, t.rxcnt, t.ie)) = some (0x4D, 28, 8, false) := by decide
/-- RT3: two ticks stolen before sample 4 give 0x2D at tick 30. -/
theorem test_decode_RT3 : (after (exec .decodeFrame (at_ 10 true line4D
    [calm, calm, calm, calm, burst 2, calm, calm, calm, calm]))).map
    (fun t => (t.rxout, t.now, t.ie)) = some (0x2D, 30, true) := by decide

/-- The parameters of R131, with R60's ninth read or without it. -/
def startIsBit0 (ninth : Bool) : State := { s10 with cfg := { p0 with rxStartIsBit0 := true, bit0NinthRead := ninth } }
/-- R131, by hand: the eight reads start at once and are one bit period apart; bit 0 is the start level. -/
theorem test_decode_R131 : (after (exec .decodeFrame (startIsBit0 false))).map
    (fun t => (t.rxhist.map (·.1), t.rxout, t.now)) = some ([10, 12, 14, 16, 18, 20, 22, 24], 0x9B, 25) := by decide
/-- R60, by hand: the reads are nine; byte and return are R131's (the place of the ninth is log entry 12). -/
theorem test_decode_R60 : (after (exec .decodeFrame (startIsBit0 true))).map
    (fun t => (t.rxhist.map (·.1), t.rxout, t.now)) = some ([10, 10, 12, 14, 16, 18, 20, 22, 24], 0x9B, 25) := by decide

/-! ### SEND_BYTE (section 2.2) -/

/-- TT1: entered at tick 100. -/
theorem test_send_TT1 : (after (exec (.sendByte 0x0E false) (at_ 100 true [] []))).map (·.txhist) = some
    [(100, .high), (102, .high), (104, .low), (106, .low), (108, .low), (110, .high), (112, .high), (114, .high),
      (116, .low)] := by decide
/-- TX5, entered with IE = 0: bit 7 of 0xFF is not sent, ten bit periods, IE is 1 at the end. -/
theorem test_send_TX5 : (after (exec (.sendByte 0xFF true) (at_ 0 false [] []))).map
    (fun t => (t.txhist.map (·.2), t.now, t.ie, t.txcnt)) =
    some ([.high, .low, .low, .low, .low, .low, .low, .low, .low], 20, true, 7) := by decide

/-! ### Commands (sections 2.3, 3.2) -/

/-- The levels written, and when the command returns. -/
def sent (o : Host.Outcome State Fault Refusal) : Option (List Level × Nat) :=
  (after o).map (fun t => (t.txhist.map (·.2), t.now))

/-- C1v. -/
theorem test_reset : sent (exec .cmdReset (at_ 0 true [] [])) =
    some ([.high, .low, .high, .high, .high, .high, .high, .high, .low], 20) := by decide
/-- C2v. -/
theorem test_bell_on : sent (exec .cmdBellOn (at_ 0 true [] [])) =
    some ([.high, .high, .low, .high, .high, .high, .high, .high, .low], 20) := by decide
/-- C3v. -/
theorem test_bell_off : sent (exec .cmdBellOff (at_ 0 true [] [])) =
    some ([.high, .low, .low, .high, .high, .high, .high, .high, .low], 20) := by decide
/-- C4v. -/
theorem test_click_on : sent (exec .cmdClickOn (at_ 0 true [] [])) =
    some ([.high, .high, .low, .high, .low, .high, .high, .high, .low], 20) := by decide
/-- C5v. -/
theorem test_click_off : sent (exec .cmdClickOff (at_ 0 true [] [])) =
    some ([.high, .low, .low, .high, .low, .high, .high, .high, .low], 20) := by decide
/-- C6v. -/
theorem test_layout : sent (exec .cmdLayoutQuery (at_ 0 true [] [])) =
    some ([.high, .low, .low, .low, .low, .high, .high, .high, .low], 20) := by decide
/-- The draws of section 3.2: a request arrives in the fourth cell (tick 7) and is serviced in three ticks between the frames. -/
def draws32 : List IrqDraw :=
  List.replicate 3 calm ++ [⟨1, 0, 0⟩] ++ List.replicate 5 calm ++ [⟨0, 1, 3⟩] ++ List.replicate 9 calm
/-- Section 3.2. -/
theorem test_led : (after (exec (.cmdLedUpdate 0x08) (at_ 0 true [] draws32))).map (·.txhist) = some
    [(0, .high), (2, .high), (4, .low), (6, .low), (8, .low), (10, .high), (12, .high), (14, .high), (16, .low),
      (21, .high), (23, .high), (25, .high), (27, .high), (29, .low), (31, .high), (33, .high), (35, .high),
      (37, .low)] := by decide
/-- Section 3.2, the end state. -/
theorem test_led_end : (after (exec (.cmdLedUpdate 0x08) (at_ 0 true [] draws32))).map
    (fun t => (t.now, t.ie, t.pend, t.txsr, t.txlast)) = some (41, true, 0, 0x08, true) := by decide

/-! ### Steps -/

/-- I2v, as a step: the caller masks, then rings the bell; the mask is gone. -/
theorem test_callers_mask_is_lost : (after (step (asking [.invoke (.native 0x02 0)] (at_ 0 false [] [])))).map
    (fun t => (t.ie, t.host.queue.length)) = some (true, 0) := by decide
/-- Section 3.1 step 3: MainLoop sees the start condition and receives next. -/
theorem test_poll_sees_start : (after (step e10)).map (fun t => (t.host.loop, t.now)) = some (.receive, 10) := by decide
/-- R168, R185: an LED byte that arrives during the report hand-over is held. -/
theorem test_led_byte_is_held : (after (step { s10 with
    host := { s10.host with loop := .flush }, env := { s10.env with work := [⟨5, some 2, none⟩] } })).map
    (fun t => (t.host.newLed, t.now)) = some (some 2, 15) := by decide
/-- R30: the USB collaborator enables interrupts while MainLoop is outside the block. -/
theorem test_collaborator_writes_ie : (after (step { s10 with
    host := { s10.host with loop := .flush }
    env := { s10.env with work := [⟨5, none, some true⟩], irqs := [calm] } })).map
    (fun t => (t.ie, t.now)) = some (true, 15) := by decide
/-- R183: after other work of the host's a DECODE_FRAME is no longer within the contract. -/
theorem test_contract_ends_with_other_work : (after (step { s10 with
    host := { s10.host with queue := [.work], result := .truth true, point := .returned .startDetect } })).map
    (·.contractAllows .decodeFrame) = some false := by decide
/-- R95: the refusal names the opcode. -/
theorem test_step_refuses_unassigned :
    step (asking [.invoke (.native 0x10 0)] s10) = .refused (.unassignedOpcode 0x10) := by rfl

/-! ### Witnesses: premises that can be met -/

/-- A history that is not empty, under the invariant: one write and one read in the past. -/
def lived : State :=
  { s10 with txhist := [(3, .high)], txline := .high, rxhist := [(9, .high)] }

theorem witness_Invariant : Invariant lived where
  rxIdle := rfl
  txIdle := rfl
  cfgLegal := rfl
  txInOrder := by simp [historyInOrder, lived, s10, at_]
  rxInOrder := by simp [historyInOrder, lived, s10, at_]
  lineIsLast := rfl
  readsAreTrue := by simp [lived, s10, at_, line4D, State.rx, Wave.lastAt]
  warmup := Nat.zero_le _

theorem witness_ResetMeetsInvariant : { Params.ofTpb 4 with pinRx := 0, pinTx := 1 }.wellFormed = true := by decide
theorem witness_RewritingTheLevelMakesNoEdge : Invariant lived ∧ lived.txline = .high := ⟨witness_Invariant, rfl⟩
theorem witness_LineHoldsLastWrittenLevel : Invariant lived ∧ lived.now ≤ 10 := ⟨witness_Invariant, Nat.le_refl _⟩
theorem witness_DelayIsExactWhileMasked : s10.ie = false := rfl
theorem witness_DelayIsOnlyStretchedWhileEnabled : e10.ie = true := rfl
theorem witness_EveryStretchCanBeDrawn : e10.ie = true := rfl
theorem witness_ReceivedByteIsComplementOfLevelsRead : s10.cfg.rxInvert = true := rfl
theorem witness_AssemblyPlacesEachBit :
    [Level.low, .high, .low, .low, .high, .high, .low, .high].length = 8 ∧
      [Level.low, .high, .low, .low, .high, .high, .low, .high][7]? = some .high := by decide
theorem witness_SamplesFallAtTheStatedInstants : s10.cfg.rxStartIsBit0 = false ∧ s10.ie = false := ⟨rfl, rfl⟩
theorem witness_ReceiveTakesNineBitPeriodsAndStretch : s10.cfg.wellFormed = true ∧ s10.cfg.rxStartIsBit0 = false ∧
    s10.cfg.rxFirstDelay = 3 * s10.cfg.tpb / 2 ∧ s10.cfg.rxTailDelay = s10.cfg.tpb / 2 ∧ s10.ie = false := by decide
/-- The premises, with the right side true (no latency) and false (one tick late). -/
theorem witness_AlignedIffLateByLessThanHalfABit : s10.cfg.wellFormed = true ∧ s10.cfg.rxStartIsBit0 = false ∧
    s10.cfg.rxFirstDelay = 3 * s10.cfg.tpb / 2 ∧ 9 ≤ s10.now ∧ 10 ≤ s10.now ∧
    (s10.now - 10) + State.stretchOver 8 s10 < s10.cfg.tpb / 2 ∧
    ¬(s10.now - 9) + State.stretchOver 8 s10 < s10.cfg.tpb / 2 := by decide

theorem idealFrame4D : IdealFrame s10.cfg s10.rx 10 0x4D where
  before t h := by obtain rfl : t = 9 := by omega
                   rfl
  start t h1 h2 := by
    have h2' : t < 12 := h2
    interval_cases t <;> rfl
  data k t h1 h2 := by
    have hk := k.isLt
    have h1' : 10 + (k.val + 1) * 2 ≤ t := h1
    have h2' : t < 10 + (k.val + 2) * 2 := h2
    have : t = 12 + 2 * k.val ∨ t = 13 + 2 * k.val := by omega
    fin_cases k <;> rcases this with rfl | rfl <;> rfl
  after t h1 h2 := by
    have h1' : 28 ≤ t := h1
    have h2' : t < 30 := h2
    interval_cases t <;> rfl

theorem witness_AlignedFrameIsReceived : IdealFrame s10.cfg s10.rx 10 0x4D ∧ Aligned s10 10 :=
  ⟨idealFrame4D, by unfold Aligned; decide⟩

/-- Twenty ticks to the bit; a frame of 0x00 with start edge at tick 10, called one tick late; each delay loses a tick. -/
def late : State :=
  { at_ 11 true [(0, .high), (10, .low), (30, .high)] (List.replicate 9 (burst 1)) with
    cfg := { p0 with tpb := 20, rxFirstDelay := 30, rxTailDelay := 10, pollLatencyMax := 1, irqJitterMax := 1 } }

theorem late_line_high (t : Nat) (h : 30 ≤ t) : late.rx t = .high := by
  simp [late, at_, State.rx, Wave.lastAt, h]

theorem witness_BoundedDisturbanceIsReceived : late.cfg.wellFormed = true ∧ late.cfg.rxStartIsBit0 = false ∧
    late.cfg.rxFirstDelay = 3 * late.cfg.tpb / 2 ∧ IdealFrame late.cfg late.rx 10 0x00 ∧ LatencyBounded late 10 ∧
    JitterBounded 8 late ∧ late.cfg.pollLatencyMax + 8 * late.cfg.irqJitterMax < late.cfg.tpb / 2 := by
  refine ⟨by decide, by decide, by decide, ⟨?_, ?_, ?_, ?_⟩, by unfold LatencyBounded; decide,
    by unfold JitterBounded; decide, by decide⟩
  · intro t h
    obtain rfl : t = 9 := by omega
    rfl
  · intro t h1 h2
    have h2' : t < 30 := h2
    interval_cases t <;> rfl
  · intro k t h1 _
    have h1' : 10 + (k.val + 1) * 20 ≤ t := h1
    rw [late_line_high t (by omega)]
    simp [inboundLevel, late, p0, Params.default, Params.ofTpb, Level.ofBit, Level.inv]
  · intro t h1 _
    have h1' : 190 ≤ t := h1
    exact late_line_high t (by omega)

theorem test_fetched_word_completes :
    (after (step (State.reset.withFetchWord 16 0x000E))).map (·.txhist.length) = some 18 := by decide

/-- A line stuck high, and one stuck low. -/
theorem witness_StuckLineIsReceivedAsAllEqualBits : s10.cfg.rxInvert = true ∧
    (∀ k, k < 8 → (at_ 0 false [(0, .high)] []).rx (sampleInstant (at_ 0 false [(0, .high)] []) k) = .high) ∧
    (∀ k, k < 8 → (at_ 0 false [(0, .low)] []).rx (sampleInstant (at_ 0 false [(0, .low)] []) k) = .low) := by decide

theorem witness_SendByteDrivesTheFrame : s10.cfg.txInvert = true ∧ s10.cfg.txStartCells = 1 ∧
    s10.cfg.txStartLevel = .high ∧ s10.cfg.txStopLevel = .low := by decide
/-- The first cell, the last data cell and the last stop cell of a frame. -/
theorem witness_LineShowsTheCellList : (frameCells p0 0x0E true)[0]? = some .high ∧
    (frameCells p0 0x0E true)[7]? = some .high ∧ (frameCells p0 0x0E true)[9]? = some .low := by decide
theorem witness_SendByteMasksAndReleasesUnconditionally :
    0 < 1 ∧ 37 < (sendByteActions p0 0x0E true).length := by decide
theorem witness_SendByteDrivesSevenBitsInOrder : s10.cfg.txInvert = true := rfl
theorem witness_SendByteTakesItsFrameAndNothingElseRuns : s10.cfg.txStartCells = 1 ∧ s10.cfg.stopShortCells = 1 ∧
    s10.cfg.stopLongCells = 2 ∧ 37 < (sendByteActions s10.cfg 0x0E true).length := by decide
/-- Nothing held, nothing arriving: the premise of the last clause. -/
theorem witness_LedUpdateGapIsTheHeldService :
    (at_ 0 true [] (List.replicate 10 calm)).pend + arrivalsOver (at_ 0 true [] (List.replicate 10 calm)).env 9 = 0 ∧
      ((at_ 0 true [] (List.replicate 10 calm)).env.irqAt 9).arrivals = 0 := by decide
/-- The boundaries of the four clauses: 1 and 37, 38 and 39, 40 and 76, 77. -/
theorem witness_LedUpdateMasksEachFrameByItself :
    (sendByteActions p0 0x0E false).length = 38 ∧ (operationActions p0 (.cmdLedUpdate 0x55)).length = 77 := by decide
theorem witness_OperationsKeepToTheAccessMatrix : Instr.readPin ≠ .decodeFrame ∧ transmits .readPin = false ∧
    (∀ v, Instr.readPin ≠ .writePin v) ∧ readsLine .cmdReset = false := ⟨by decide, rfl, fun _ h => (nomatch h), rfl⟩
theorem witness_AtMostOneEngineIsBusy : s10.rxph = .idle ∧ s10.txph = .idle := ⟨rfl, rfl⟩
/-- The last points both clauses reach. -/
theorem witness_PhasesOnlyAdvance : s10.rxph = .idle ∧ s10.txph = .idle ∧ 0 ≤ 36 ∧
    37 < (decodeFrameActions s10.cfg).length ∧ 36 + 1 < (sendByteActions s10.cfg 0x0E true).length := by decide
theorem witness_InterruptServiceIsTransparent : s10.ie = false ∧ e10.ie = true ∧ e10.pend = 0 ∧
    (e10.env.irqAt 0).arrivals = 0 := by decide
/-- The premises of the first and the third clause. -/
theorem witness_DecodeOfEncodeIsTheInstruction : (Instr.cmdLedUpdate 0x7F).wellFormed = true ∧
    decodeCall (.named .cmdLedUpdate [0xFF]) = .ok (.cmdLedUpdate 0xFF) := by decide
/-- An opcode of the table, with its operand, and one that is none. -/
theorem witness_NativeOpcodesAreTheSevenOfTheTable :
    decodeCall (.native 0x8E 0x7F) = .ok (.cmdLedUpdate 0x7F) ∧ (encodeBytes (.cmdLedUpdate 0x7F))[1]? = some 0x7F ∧
      (0x10 : Byte) &&& 0x7F ∉ Config.commandTable.map CommandRow.opcode := by decide
theorem witness_StepRunsTheRequestedOperation : ∃ t, decodeCall (.native 0x02 0) = .ok .cmdBellOn ∧
    (asking [.invoke (.native 0x02 0), .work] s10).host.queue = .invoke (.native 0x02 0) :: [.work] ∧
    exec .cmdBellOn { asking [.invoke (.native 0x02 0), .work] s10 with
      host := { (asking [.invoke (.native 0x02 0), .work] s10).host with queue := [.work] } } = .next t :=
  ⟨_, rfl, rfl, rfl⟩
theorem witness_StepRunsTheFetchedWord : ∃ t, decodeTableWord 16 0x550E = some (.cmdLedUpdate 0x55) ∧
    exec (.cmdLedUpdate 0x55) s10 = .next t := ⟨_, rfl, rfl⟩
theorem witness_StepIsRefusedOnlyForACallWithoutOperation :
    step (asking [.invoke (.named .delay [])] s10) = .refused (.malformedCall .delay) := rfl
theorem witness_TimeNeverGoesBack : ∃ t, step e10 = .next t := ⟨_, rfl⟩
theorem witness_ParametersNeverChange : ∃ t, step e10 = .next t := ⟨_, rfl⟩
theorem witness_EveryStepKeepsTheInvariant : ∃ t, Invariant lived ∧ step lived = .next t := ⟨_, witness_Invariant, rfl⟩
theorem witness_HostWriteOfIEIsTransparent : (asking [.writeIE true] s10).host.queue = .writeIE true :: [] := rfl
theorem witness_CallersMaskDoesNotSurviveATransmit :
    (asking [.invoke (.native 0x02 0)] s10).host.queue = .invoke (.native 0x02 0) :: [] ∧
    decodeCall (.native 0x02 0) = .ok .cmdBellOn ∧ transmits .cmdBellOn = true ∧
    (asking [.invoke (.native 0x02 0)] s10).ie = false := by decide
theorem witness_OneSampleDecidesTheIteration : s10.host.queue = [] ∧ s10.host.loop = .poll ∧
    s10.rx s10.now = s10.cfg.rxActiveLevel := by decide

/-- Parameters with two warm-up frames, as in section 3.6. -/
def warm (seen : BitVec 8) : State :=
  { s10 with
    cfg := { p0 with warmupFrames := 2 }
    host := { s10.host with loop := .receive, reportsSeen := seen } }

/-- The boundary of the two clauses: one frame seen of two, and two of two. -/
theorem witness_ReceivedCodeIsCountedOrHandedOn :
    (warm 1).host.queue = [] ∧ (warm 1).host.loop = .receive ∧ (warm 2).host.queue = [] ∧
    (warm 2).host.loop = .receive ∧ (warm 1).host.reportsSeen.toNat < (warm 1).cfg.warmupFrames ∧
    (warm 2).cfg.warmupFrames ≤ (warm 2).host.reportsSeen.toNat := by decide

/-- An idle iteration with given news from the USB collaborator. -/
def idling (led : Option Byte) : State :=
  { s10 with
    host := { s10.host with loop := .idle }
    env := { s10.env with work := [⟨5, led, none⟩] } }

theorem witness_IdleIterationSendsAtMostOneLedUpdate :
    (idling none).host.queue = [] ∧ (idling none).host.loop = .idle ∧
    newestLed ((idling none).env.workAt 0) (idling none).host.newLed = none ∧
    (idling (some 2)).host.queue = [] ∧ (idling (some 2)).host.loop = .idle ∧
    newestLed ((idling (some 2)).env.workAt 0) (idling (some 2)).host.newLed = some 2 := by decide

/-- MainLoop at the report hand-over, holding an LED byte while another arrives. -/
def flushing : State :=
  { idling (some 2) with host := { s10.host with loop := .flush, newLed := some 1 } }

/-- Both clauses, the second in each of its forms. -/
theorem witness_LedByteIsHeldForTheIdleIteration : (∃ t, step flushing = .next t) ∧
    ¬(flushing.host.queue = [] ∧ flushing.host.loop = .idle) ∧ flushing.host.newLed ≠ none ∧
    flushing.host.queue = [] ∧ flushing.host.loop = .flush ∧ (∃ t, step (asking [.work] flushing) = .next t) ∧
    (asking [.work] flushing).host.queue.head? = some .work :=
  ⟨⟨_, rfl⟩, by decide, by decide, rfl, rfl, ⟨_, rfl⟩, rfl⟩

/-- MainLoop's poll and the host's own, each followed by a state that allows DECODE_FRAME; and a WRITE_PIN at boot, followed
by one that allows another. -/
theorem witness_ContractHoldsOnlyAtBootAndRightAfterDetection :
    (∃ t, step s10 = .next t ∧ t.contractAllows .decodeFrame = true) ∧
    (∃ t, step (asking [.invoke (.named .startDetect [])] s10) = .next t ∧ t.contractAllows .decodeFrame = true) ∧
    ∃ t, step (asking [.invoke (.named .writePin [0])] s10) = .next t ∧ t.contractAllows (.writePin .low) = true :=
  ⟨⟨_, rfl, by decide⟩, ⟨_, rfl, by decide⟩, ⟨_, rfl, by decide⟩⟩
theorem witness_IterationEndsAtThePoll :
    { s10 with host := { s10.host with loop := .flush } }.host.queue = [] ∧
      { s10 with host := { s10.host with loop := .flush } }.host.loop = .flush := by decide

/-- The receiver of Rig A (section 3.4) on a given line. -/
def rigA (line : Wave) : State :=
  { at_ 0 false line [] with cfg := { p0 with rxIdleLevel := .low } }

theorem witness_RoundTripInRigA : ∃ t, (at_ 0 true [] []).cfg.wellFormed = true ∧ (at_ 0 true [] []).cfg.txInvert = true ∧
    (at_ 0 true [] []).cfg.txIdleLevel = .low ∧ (at_ 0 true [] []).cfg.txStartCells = 1 ∧
    exec (.sendByte 0x0E true) (at_ 0 true [] []) = .next t ∧ (rigA t.txhist).cfg.tpb = (at_ 0 true [] []).cfg.tpb ∧
    (rigA t.txhist).cfg.rxIdleLevel = .low ∧ (rigA t.txhist).cfg.rxInvert = true ∧
    (rigA t.txhist).cfg.rxStartIsBit0 = false ∧
    (rigA t.txhist).cfg.rxFirstDelay = 3 * (rigA t.txhist).cfg.tpb / 2 ∧
    (rigA t.txhist).env.rxWave = t.txhist ∧ (rigA t.txhist).now = (at_ 0 true [] []).now ∧
    State.stretchOver 8 (rigA t.txhist) < (rigA t.txhist).cfg.tpb / 2 :=
  ⟨_, rfl, rfl, rfl, rfl, rfl, rfl, rfl, rfl, rfl, rfl, rfl, rfl, Nat.one_pos⟩

theorem witness_RoundTripInRigB : ∃ t, (at_ 0 true [] []).cfg.wellFormed = true ∧ (at_ 0 true [] []).cfg.txInvert = true ∧
    (at_ 0 true [] []).cfg.txIdleLevel = .low ∧ (at_ 0 true [] []).cfg.txStartCells = 1 ∧
    exec (.sendByte 0x0E true) (at_ 0 true [] []) = .next t ∧
    (let r := at_ 0 false (t.txhist.map (fun e => (e.1, e.2.inv))) []
     r.cfg.tpb = (at_ 0 true [] []).cfg.tpb ∧ r.cfg.rxIdleLevel = .high ∧ r.cfg.rxInvert = true ∧
     r.cfg.rxStartIsBit0 = false ∧ r.cfg.rxFirstDelay = 3 * r.cfg.tpb / 2 ∧
     r.env.rxWave = t.txhist.map (fun e => (e.1, e.2.inv)) ∧ r.now = (at_ 0 true [] []).now ∧
     State.stretchOver 8 r < r.cfg.tpb / 2) :=
  ⟨_, rfl, rfl, rfl, rfl, rfl, rfl, rfl, rfl, rfl, rfl, rfl, rfl, Nat.one_pos⟩

end Sys2Proof.Tests
end

section
/-! PROOFS. SEND_BYTE in closed form, and O25: what the outbound line shows is the sample level's list of cells. -/

namespace Sys2Proof.Machine

/-! ### SEND_BYTE in closed form, part by part -/

/-- The mask, the latch and the start pulse of SEND_BYTE (R142). -/
def startActions (c : Params) (value : Byte) (isLast : Bool) : List Action :=
  [State.maskInterrupts, State.latchTx value isLast, State.setTxPhase .start, State.drive c.txStartLevel,
    State.delay (c.txStartCells * c.tpb)]

/-- The stop pattern and the release of SEND_BYTE (R142, R146). -/
def stopActions (c : Params) : List Action :=
  [State.setTxPhase .stop, State.drive c.txStopLevel, State.stopDelay, State.setTxPhase .idle, State.releaseInterrupts]

/-- SEND_BYTE is the start pulse, one data cell for each of bits 0 to 6, and the stop pattern (R84). -/
theorem sendByteActions_eq (c : Params) (value : Byte) (isLast : Bool) :
    sendByteActions c value isLast =
      startActions c value isLast ++ (List.finRange 7).flatMap (dataCellActions c) ++ stopActions c := rfl

/-- What the start pulse leaves. -/
def State.afterStartPulse (value : Byte) (isLast : Bool) (s : State) : State :=
  { s with
    ie := false
    txsr := value
    txlast := isLast
    txcnt := 0
    txph := .start
    txline := s.cfg.txStartLevel
    txhist := s.txhist ++ [(s.now, s.cfg.txStartLevel)]
    pend := s.pend + (s.env.irqAt 0).arrivals
    now := s.now + s.cfg.txStartCells * s.cfg.tpb
    env := s.env.skipIrqs 1 }

/-- What data cell `i` leaves of a masked machine. -/
def State.afterDataCell (s : State) (i : Fin 7) : State :=
  { s with
    txph := .data i
    txline := dataLevel s.cfg s.txsr i
    txcnt := BitVec.ofNat 3 (i.val + 1)
    txhist := s.txhist ++ [(s.now, dataLevel s.cfg s.txsr i)]
    pend := s.pend + (s.env.irqAt 0).arrivals
    now := s.now + s.cfg.tpb
    env := s.env.skipIrqs 1 }

/-- What the stop pattern leaves of a masked machine. -/
def State.afterStopPattern (s : State) : State :=
  { s with
    ie := true
    txph := .idle
    txline := s.cfg.txStopLevel
    txhist := s.txhist ++ [(s.now, s.cfg.txStopLevel)]
    pend := s.pend + (s.env.irqAt 0).arrivals
    now := s.now + s.cfg.stopCells s.txlast * s.cfg.tpb
    env := s.env.skipIrqs 1 }

theorem runActions_startActions (value : Byte) (isLast : Bool) (s : State) :
    runActions (startActions s.cfg value isLast) s = s.afterStartPulse value isLast :=
  delay_of_masked _ (((s.maskInterrupts.latchTx value isLast).setTxPhase .start).drive s.cfg.txStartLevel) rfl

theorem runActions_dataCellActions (i : Fin 7) (s : State) (h : s.ie = false) :
    runActions (dataCellActions s.cfg i) s = s.afterDataCell i :=
  delay_of_masked _ (((s.setTxPhase (.data i)).driveData i).setTxCount (i.val + 1)) h

theorem runActions_dataCells (is : List (Fin 7)) (s : State) (h : s.ie = false) :
    runActions (is.flatMap (dataCellActions s.cfg)) s = is.foldl State.afterDataCell s := by
  induction is generalizing s with
  | nil => rfl
  | cons i is ih =>
    rw [List.flatMap_cons, runActions_append, runActions_dataCellActions i s h]
    exact ih (s.afterDataCell i) h

theorem afterStartPulse_cfg (value : Byte) (isLast : Bool) (s : State) :
    (s.afterStartPulse value isLast).cfg = s.cfg := rfl

/-- Data cells change neither the mask nor the parameters. -/
theorem foldl_afterDataCell_frame (is : List (Fin 7)) (s : State) :
    (is.foldl State.afterDataCell s).ie = s.ie ∧ (is.foldl State.afterDataCell s).cfg = s.cfg := by
  induction is generalizing s with
  | nil => exact ⟨rfl, rfl⟩
  | cons i is ih => exact ih (s.afterDataCell i)

theorem runActions_stopActions (s : State) (h : s.ie = false) :
    runActions (stopActions s.cfg) s = s.afterStopPattern :=
  congrArg (fun u : State => (u.setTxPhase .idle).releaseInterrupts)
    (delay_of_masked _ ((s.setTxPhase .stop).drive s.cfg.txStopLevel) h)

/-- The parts of a frame put together are the frame. -/
theorem afterFrame_eq_parts (value : Byte) (isLast : Bool) (s : State) :
    ((((List.finRange 7).foldl State.afterDataCell (s.afterStartPulse value isLast)).afterStopPattern).giveResult .none) =
      s.afterFrame value isLast := by
  simp [State.afterStartPulse, State.afterDataCell, State.afterStopPattern, State.afterFrame, State.giveResult,
    List.finRange_succ, List.range_succ, frameWrites, arrivalsOver, sendByteTicks, Nat.add_mul, Nat.add_assoc]
  omega

/-- SEND_BYTE in closed form (R142, R143, R146, R149). -/
theorem exec_sendByte (value : Byte) (isLast : Bool) (s : State) :
    exec (.sendByte value isLast) s = .next (s.afterFrame value isLast) := by
  obtain ⟨hie, hcfg⟩ := foldl_afterDataCell_frame (List.finRange 7) (s.afterStartPulse value isLast)
  have hstart := runActions_startActions value isLast s
  have hdata := runActions_dataCells (List.finRange 7) (s.afterStartPulse value isLast) rfl
  have hstop := runActions_stopActions _ hie
  rw [hcfg, afterStartPulse_cfg] at hstop
  rw [afterStartPulse_cfg] at hdata
  simp only [exec, execSendByte, sendByteActions_eq, runActions_append, hstart, hdata, hstop, afterFrame_eq_parts]

/-! ### The line shows the cell list (O25) -/

theorem dataCells_length (c : Params) (value : Byte) : (dataCells c value).length = 7 := rfl

theorem dataCells_getElem? (c : Params) (value : Byte) (k : Nat) (hk : k < 7) :
    (dataCells c value)[k]? = some (dataLevel c value ⟨k, hk⟩) := by
  interval_cases k <;> rfl

theorem frameCells_length (c : Params) (value : Byte) (isLast : Bool) :
    (frameCells c value isLast).length = c.txStartCells + 7 + c.stopCells isLast := by
  simp [frameCells, dataCells_length, Nat.add_assoc]

/-- Cell `j` of the sample level's list is a start cell, a data cell or a stop cell, by its place (R84, R143). -/
theorem frameCells_getElem?_cases (c : Params) (value : Byte) (isLast : Bool) (j : Nat) (l : Level)
    (h : (frameCells c value isLast)[j]? = some l) :
    (j < c.txStartCells ∧ l = c.txStartLevel) ∨
      (∃ (k : Nat) (hk : k < 7), j = c.txStartCells + k ∧ l = dataLevel c value ⟨k, hk⟩) ∨
      (c.txStartCells + 7 ≤ j ∧ l = c.txStopLevel) := by
  simp only [frameCells, List.getElem?_append, List.getElem?_replicate, List.length_append, List.length_replicate,
    dataCells_length] at h
  split_ifs at h with hdata hstart
  · exact .inl ⟨hstart, (Option.some.inj h).symm⟩
  · rw [dataCells_getElem? c value (j - c.txStartCells) (by omega)] at h
    exact .inr (.inl ⟨j - c.txStartCells, by omega, by omega, (Option.some.inj h).symm⟩)
  · exact .inr (.inr ⟨by omega, (Option.some.inj h).symm⟩)

/-- During cell `j` of the frame's list the outbound line shows that cell. -/
theorem lastAt_frame_cell (h : Wave) (c : Params) (ts : Nat) (value : Byte) (isLast : Bool) (j u : Nat) (l : Level)
    (hl : (frameCells c value isLast)[j]? = some l) (h1 : ts + j * c.tpb ≤ u) (h2 : u < ts + (j + 1) * c.tpb) :
    (h ++ frameWrites c ts value).lastAt u = some l := by
  obtain ⟨hj, rfl⟩ | ⟨k, hk, rfl, rfl⟩ | ⟨hj, rfl⟩ := frameCells_getElem?_cases c value isLast j l hl
  · have hend : (j + 1) * c.tpb ≤ c.txStartCells * c.tpb := Nat.mul_le_mul_right _ hj
    exact lastAt_frame_start h c ts value u (by omega) (by omega)
  · exact lastAt_frame_data h c ts value u k hk h1 h2
  · have hbegin : (c.txStartCells + 7) * c.tpb ≤ j * c.tpb := Nat.mul_le_mul_right _ hj
    exact lastAt_frame_stop h c ts value u (by omega)

/-- Settles O25, cell by cell of the list. -/
theorem lineShowsTheCellList : Obligations.LineShowsTheCellList := by
  intro value isLast s
  refine ⟨s.afterFrame value isLast, exec_sendByte value isLast s, ?_, fun j l hl u h1 h2 => ?_⟩
  · rw [frameCells_length]; rfl
  · have hshown := lastAt_frame_cell s.txhist s.cfg s.now value isLast j u l hl h1 h2
    exact congrArg (fun o : Option Level => o.getD s.cfg.txIdleLevel) hshown

end Sys2Proof.Machine
end

section
/-! PROOFS. DECODE_FRAME in closed form, and O26: the byte received is the sample level's function of the levels read. -/

namespace Sys2Proof.Machine

/-! ### The receiver's shift -/

/-- A shift puts the new bit at place 7 and moves every other bit down by one (R13, R87). -/
theorem getLsbD_shiftIn (r : Byte) (b : Bool) (i : Nat) (hi : i < 8) :
    (shiftIn r b).getLsbD i = if i < 7 then r.getLsbD (i + 1) else b := by
  have hplace : i < 7 ∨ i = 7 := by omega
  rcases hplace with hlow | rfl
  · simp [shiftIn, hlow, Nat.add_comm]
  · simp [shiftIn]

/-- The level shifted in last enters at bit 7. -/
theorem assemble_concat (c : Params) (r : Byte) (ls : List Level) (l : Level) :
    assemble c r (ls ++ [l]) = shiftIn (assemble c r ls) (logicalBit c l) := by
  induction ls generalizing r with
  | nil => rfl
  | cons m ls ih => exact ih (shiftIn r (logicalBit c m))

/-- Of the register's own bits only those that `ls` does not shift out reach the result. -/
theorem assemble_congr (c : Params) (r r' : Byte) (ls : List Level)
    (h : ∀ i, ls.length ≤ i → i < 8 → r.getLsbD i = r'.getLsbD i) : assemble c r ls = assemble c r' ls := by
  induction ls generalizing r r' with
  | nil => exact BitVec.eq_of_getLsbD_eq fun i hi => h i (Nat.zero_le _) hi
  | cons l ls ih =>
    refine ih _ _ fun i hlen hi => ?_
    rw [getLsbD_shiftIn r _ i hi, getLsbD_shiftIn r' _ i hi]
    split
    · exact h (i + 1) (by simpa using hlen) (by omega)
    · rfl

/-- Eight levels shift every old bit out. -/
theorem assemble_of_length_eight (c : Params) (r r' : Byte) (ls : List Level) (h : ls.length = 8) :
    assemble c r ls = assemble c r' ls :=
  assemble_congr c r r' ls fun _ hlen hi => absurd hi (by omega)

/-! ### DECODE_FRAME in closed form, sample by sample -/

/-- The first `n` samples of a receive called in state `s`: their ticks and levels (R55). -/
def readsUpTo (s : State) (n : Nat) : Wave :=
  (List.range n).map fun k => (sampleInstant s k, s.rx (sampleInstant s k))

theorem readsUpTo_succ (s : State) (n : Nat) :
    readsUpTo s (n + 1) = readsUpTo s n ++ [(sampleInstant s n, s.rx (sampleInstant s n))] := by
  simp [readsUpTo, List.range_succ]

/-- What a receive called in state `s` leaves right after its sample `k`. -/
def State.afterSample (s : State) (k : Fin 8) : State :=
  { s with
    rxsr := assemble s.cfg s.rxsr ((readsUpTo s (k.val + 1)).map (·.2))
    rxcnt := BitVec.ofNat 4 (k.val + 1)
    rxph := .sample k
    pend := (State.interruptPoints (delaysBefore s.cfg k.val) s).pend
    now := sampleInstant s k.val
    rxhist := s.rxhist ++ (ninthRead s ++ readsUpTo s (k.val + 1))
    env := s.env.skipIrqs (delaysBefore s.cfg k.val) }

theorem delaysBefore_succ (c : Params) (k : Nat) : delaysBefore c (k + 1) = delaysBefore c k + 1 := by
  unfold delaysBefore; split <;> rfl

/-- The delay after sample `k` stands at the interrupt point after the ones before it. -/
theorem afterSample_stretch (s : State) (k : Fin 8) :
    (s.afterSample k).stretch = (State.interruptPoints (delaysBefore s.cfg k.val) s).stretch ∧
      (s.afterSample k).pendAfter = (State.interruptPoints (delaysBefore s.cfg k.val + 1) s).pend := by
  obtain ⟨hie, henv, -⟩ := interruptPoints_spec (delaysBefore s.cfg k.val) s
  rw [interruptPoints_succ]
  exact stretch_congr _ _ hie.symm rfl henv.symm

theorem sampleInstant_succ (s : State) (k : Nat) :
    sampleInstant s (k + 1) =
      sampleInstant s k + s.cfg.tpb + (State.interruptPoints (delaysBefore s.cfg k) s).stretch := by
  simp only [sampleInstant, delaysBefore_succ, stretchOver_succ, Nat.succ_mul]
  omega

/-- A delay after sample `k`. -/
theorem delay_afterSample (n : Nat) (s : State) (k : Fin 8) :
    (s.afterSample k).delay n = { s.afterSample k with
      pend := (State.interruptPoints (delaysBefore s.cfg k.val + 1) s).pend
      now := sampleInstant s k.val + n + (State.interruptPoints (delaysBefore s.cfg k.val) s).stretch
      env := s.env.skipIrqs (delaysBefore s.cfg k.val + 1) } := by
  obtain ⟨hstretch, hpend⟩ := afterSample_stretch s k
  rw [delay_eq, hstretch, hpend]
  simp [State.afterSample]

/-- A sample, at the tick at which it is taken (R126). -/
theorem runActions_sampleActions (k : Fin 8) (s : State) :
    runActions (sampleActions k) s = { s with
      rxsr := shiftIn s.rxsr (logicalBit s.cfg (s.rx s.now))
      rxcnt := BitVec.ofNat 4 (k.val + 1)
      rxph := .sample k
      rxhist := s.rxhist ++ [(s.now, s.rx s.now)] } := rfl

/-- Up to sample 0 the receiver shifts nothing in; of its reads there is the ninth of R60 at most (log entry 12). -/
theorem runActions_leadInActions (s : State) : ∃ p, runActions (leadInActions s.cfg) s = { s with
    rxcnt := 0
    rxph := p
    pend := (State.interruptPoints (delaysBefore s.cfg 0) s).pend
    now := sampleInstant s 0
    rxhist := s.rxhist ++ ninthRead s
    env := s.env.skipIrqs (delaysBefore s.cfg 0) } := by
  cases hbit0 : s.cfg.rxStartIsBit0 with
  | true =>
    refine ⟨s.rxph, ?_⟩
    cases hninth : s.cfg.bit0NinthRead <;>
      simp [leadInActions, ninthReadActions, ninthRead, sampleInstant, firstSampleOffset, delaysBefore, hbit0, hninth,
        State.setRxCount, State.recordRead, State.rx, State.interruptPoints, State.stretchOver]
  | false =>
    refine ⟨.waitFirst, ?_⟩
    have hstretch := (stretch_congr ((s.setRxPhase .waitFirst).setRxCount 0) s rfl rfl rfl).symm
    simpa [leadInActions, ninthRead, sampleInstant, firstSampleOffset, delaysBefore, hbit0, State.interruptPoints,
      State.stretchOver, delay_eq] using hstretch

theorem runActions_firstSample (s : State) :
    runActions (leadInActions s.cfg ++ sampleActions 0) s = s.afterSample 0 := by
  obtain ⟨p, hlead⟩ := runActions_leadInActions s
  rw [runActions_append, hlead, runActions_sampleActions]
  simp [State.afterSample, readsUpTo, assemble, State.rx]

theorem runActions_nextSampleActions (s : State) (j k : Fin 8) (hk : k.val = j.val + 1) :
    runActions (nextSampleActions s.cfg k) (s.afterSample j) = s.afterSample k := by
  rw [nextSampleActions, runActions_cons, delay_afterSample, ← sampleInstant_succ, ← delaysBefore_succ, ← hk,
    runActions_sampleActions]
  simp [State.afterSample, State.rx, hk, readsUpTo_succ s (j.val + 1), assemble_concat]

theorem runActions_laterSamples (s : State) :
    runActions (laterSamples s.cfg) (s.afterSample 0) = s.afterSample 7 := by
  simp only [laterSamples, runActions_append]
  rw [runActions_nextSampleActions s 0 1 rfl, runActions_nextSampleActions s 1 2 rfl,
    runActions_nextSampleActions s 2 3 rfl, runActions_nextSampleActions s 3 4 rfl,
    runActions_nextSampleActions s 4 5 rfl, runActions_nextSampleActions s 5 6 rfl,
    runActions_nextSampleActions s 6 7 rfl]

/-- The tail delay, and RXOUT latched after it (R126). -/
theorem runActions_tailActions (c : Params) (s : State) :
    runActions (tailActions c) s = { s.delay c.rxTailDelay with rxout := s.rxsr, rxph := .idle } := rfl

theorem decodeDelays_eq (c : Params) : decodeDelays c = delaysBefore c 7 + 1 := rfl

/-- DECODE_FRAME in closed form (R126, R127, R129, R131). -/
theorem exec_decodeFrame (s : State) : exec .decodeFrame s = .next s.afterDecode := by
  have hrun : runActions (decodeFrameActions s.cfg) s =
      { (s.afterSample 7).delay s.cfg.rxTailDelay with rxout := (s.afterSample 7).rxsr, rxph := .idle } := by
    rw [decodeFrameActions, runActions_append, runActions_append, runActions_firstSample, runActions_laterSamples,
      runActions_tailActions]
  have hbyte : (s.afterSample 7).rxsr = assemble s.cfg 0 (sampledLevels s) :=
    assemble_of_length_eight s.cfg s.rxsr 0 (sampledLevels s) rfl
  have hnow : sampleInstant s 7 + s.cfg.rxTailDelay + (State.interruptPoints (delaysBefore s.cfg 7) s).stretch =
      s.afterDecode.now := by
    simp only [sampleInstant, State.afterDecode, decodeDelays_eq, stretchOver_succ]
    omega
  simp only [exec, execDecodeFrame, hrun]
  rw [delay_afterSample, hbyte]
  exact congrArg (fun n => Host.Outcome.next { s.afterDecode with now := n }) hnow

/-! ### The byte is the sample level's function (O26) -/

/-- Settles O26: the eight samples are those of the closed form, and eight levels leave nothing of the register. -/
theorem byteIsTheSampleLevelFunction : Obligations.ByteIsTheSampleLevelFunction := by
  intro s r
  exact ⟨s.afterDecode, sampledReads s, exec_decodeFrame s, rfl, rfl,
    assemble_of_length_eight s.cfg 0 r (sampledLevels s) rfl, rfl⟩

end Sys2Proof.Machine
end

section
/-! PROOFS. O48: no action, no operation and no step turns the clock back. -/

namespace Sys2Proof.Machine

/-- Every operation runs its list of actions and then gives the host a result. -/
theorem exec_eq_runActions (i : Instr) (s : State) :
    ∃ r, exec i s = .next ((runActions (operationActions s.cfg i) s).giveResult r) := by
  cases i <;> exact ⟨_, rfl⟩

/-- No action of the list turns the clock back, in any state. -/
def NeverTurnsBack (as : List Action) : Prop :=
  ∀ a ∈ as, ∀ s : State, s.now ≤ (a s).now

@[simp] theorem neverTurnsBack_nil : NeverTurnsBack [] := fun _ h => nomatch h

@[simp] theorem neverTurnsBack_cons (a : Action) (as : List Action) :
    NeverTurnsBack (a :: as) ↔ (∀ s : State, s.now ≤ (a s).now) ∧ NeverTurnsBack as :=
  List.forall_mem_cons

@[simp] theorem neverTurnsBack_append (as bs : List Action) :
    NeverTurnsBack (as ++ bs) ↔ NeverTurnsBack as ∧ NeverTurnsBack bs :=
  List.forall_mem_append

theorem NeverTurnsBack.now_le_runActions {as : List Action} (h : NeverTurnsBack as) (s : State) :
    s.now ≤ (runActions as s).now := by
  induction as generalizing s with
  | nil => exact Nat.le_refl _
  | cons a as ih =>
    obtain ⟨ha, has⟩ := (neverTurnsBack_cons a as).1 h
    exact (ha s).trans (ih has (a s))

theorem sendByteActions_neverTurnsBack (c : Params) (value : Byte) (isLast : Bool) :
    NeverTurnsBack (sendByteActions c value isLast) := by
  simp [sendByteActions, dataActions, dataCellActions, Nat.add_assoc]

theorem leadInActions_neverTurnsBack (c : Params) : NeverTurnsBack (leadInActions c) := by
  unfold leadInActions ninthReadActions
  split
  · split <;> simp
  · simp [Nat.add_assoc]

theorem decodeFrameActions_neverTurnsBack (c : Params) : NeverTurnsBack (decodeFrameActions c) := by
  simp [decodeFrameActions, leadInActions_neverTurnsBack, sampleActions, laterSamples, nextSampleActions, tailActions,
    Nat.add_assoc]

theorem commandActions_neverTurnsBack (c : Params) (row : CommandRow) (operand : Byte) :
    NeverTurnsBack (commandActions c row operand) := by
  unfold commandActions
  split <;> simp [sendByteActions_neverTurnsBack]

theorem operationActions_neverTurnsBack (c : Params) (i : Instr) : NeverTurnsBack (operationActions c i) := by
  cases i with
  | readPin | startDetect | writePin v => simp [operationActions]
  | delay n => simp [operationActions, Nat.add_assoc]
  | decodeFrame => exact decodeFrameActions_neverTurnsBack c
  | sendByte value isLast => exact sendByteActions_neverTurnsBack c value isLast
  | cmdReset | cmdBellOn | cmdBellOff | cmdClickOn | cmdClickOff | cmdLedUpdate m | cmdLayoutQuery =>
    exact commandActions_neverTurnsBack c _ _

theorem now_le_of_exec (i : Instr) (s t : State) (h : exec i s = .next t) : s.now ≤ t.now := by
  obtain ⟨r, hr⟩ := exec_eq_runActions i s
  obtain rfl := Host.Outcome.next.inj (hr.symm.trans h)
  exact (operationActions_neverTurnsBack s.cfg i).now_le_runActions s

theorem now_le_of_andThen_exec (i : Instr) (f : State → State) (hf : ∀ u : State, u.now ≤ (f u).now) (s t : State)
    (h : andThen (exec i s) f = .next t) : s.now ≤ t.now := by
  obtain ⟨u, hu, rfl⟩ := (andThen_eq_next _ _ _).1 h
  exact (now_le_of_exec i s u hu).trans (hf u)

theorem now_le_of_runHostAction (a : HostAction) (s t : State) (h : runHostAction a s = .next t) : s.now ≤ t.now := by
  cases a with
  | invoke c =>
    obtain ⟨i, -, hi⟩ | ⟨e, -, he⟩ := invoke_cases c s
    · exact now_le_of_andThen_exec i _ (fun u => by simp) s t (hi.symm.trans h)
    · cases he.symm.trans h
  | writeIE b => obtain rfl := Host.Outcome.next.inj h; simp
  | work => obtain rfl := Host.Outcome.next.inj h; simp [Nat.add_assoc]

theorem now_le_of_updateLeds (s t : State) (h : updateLeds s = .next t) : s.now ≤ t.now := by
  obtain ⟨-, hnone⟩ | ⟨b, -, hsome⟩ := updateLeds_cases s
  · obtain rfl := Host.Outcome.next.inj (hnone.symm.trans h)
    exact Nat.le_refl _
  · exact now_le_of_andThen_exec _ _ (fun u => by simp) s.takeLed t (hsome.symm.trans h)

theorem now_le_of_loopIdle (s t : State) (h : loopIdle s = .next t) : s.now ≤ t.now := by
  obtain ⟨u, hu, rfl⟩ := (andThen_eq_next _ _ _).1 h
  calc s.now ≤ s.surroundingWork.now := by simp
    _ ≤ u.now := now_le_of_updateLeds s.surroundingWork u hu
    _ ≤ (u.setLoop .flush).interruptPoint.now := by simp

theorem now_le_of_loopStep (s t : State) (h : loopStep s = .next t) : s.now ≤ t.now := by
  unfold loopStep at h
  cases hloop : s.host.loop <;> rw [hloop] at h
  case poll => exact now_le_of_andThen_exec _ _ (fun u => by simp [chooseBranch]) s t h
  case receive => exact now_le_of_andThen_exec _ _ (fun u => by simp) s t h
  case idle => exact now_le_of_loopIdle s t h
  case flush => obtain rfl := Host.Outcome.next.inj h; simp [Nat.add_assoc]

/-- Settles O48, over what a step can do: an action the host has asked for, or MainLoop's next action. -/
theorem timeNeverGoesBack : Obligations.TimeNeverGoesBack := by
  intro s t h
  obtain ⟨-, hloop⟩ | ⟨a, rest, -, haction⟩ := step_cases s
  · exact now_le_of_loopStep s t (hloop.symm.trans h)
  · exact now_le_of_runHostAction a (s.setQueue rest) t (haction.symm.trans h)

end Sys2Proof.Machine
end

section
/-! PROOFS. What each operation leaves, said once; from it the access matrix (O38), who writes IE (O37), and that neither engine
keeps anything between two calls (O14, O30). -/

namespace Sys2Proof.Machine

/-! ### The closed forms, field by field -/

@[simp] theorem State.afterDecode_rxph (s : State) : s.afterDecode.rxph = .idle := rfl
@[simp] theorem State.afterDecode_txsr (s : State) : s.afterDecode.txsr = s.txsr := rfl
@[simp] theorem State.afterDecode_txcnt (s : State) : s.afterDecode.txcnt = s.txcnt := rfl
@[simp] theorem State.afterDecode_txlast (s : State) : s.afterDecode.txlast = s.txlast := rfl
@[simp] theorem State.afterDecode_txline (s : State) : s.afterDecode.txline = s.txline := rfl
@[simp] theorem State.afterDecode_txph (s : State) : s.afterDecode.txph = s.txph := rfl
@[simp] theorem State.afterDecode_ie (s : State) : s.afterDecode.ie = s.ie := rfl
@[simp] theorem State.afterDecode_txhist (s : State) : s.afterDecode.txhist = s.txhist := rfl
@[simp] theorem State.afterDecode_host (s : State) :
    s.afterDecode.host = { s.host with result := .code (assemble s.cfg 0 (sampledLevels s)) } := rfl
@[simp] theorem State.afterDecode_env (s : State) : s.afterDecode.env = s.env.skipIrqs (decodeDelays s.cfg) := rfl
@[simp] theorem State.afterDecode_cfg (s : State) : s.afterDecode.cfg = s.cfg := rfl

@[simp] theorem State.afterFrame_rxsr (s : State) (v : Byte) (l : Bool) : (s.afterFrame v l).rxsr = s.rxsr := rfl
@[simp] theorem State.afterFrame_rxcnt (s : State) (v : Byte) (l : Bool) : (s.afterFrame v l).rxcnt = s.rxcnt := rfl
@[simp] theorem State.afterFrame_rxout (s : State) (v : Byte) (l : Bool) : (s.afterFrame v l).rxout = s.rxout := rfl
@[simp] theorem State.afterFrame_rxph (s : State) (v : Byte) (l : Bool) : (s.afterFrame v l).rxph = s.rxph := rfl
@[simp] theorem State.afterFrame_txph (s : State) (v : Byte) (l : Bool) : (s.afterFrame v l).txph = .idle := rfl
@[simp] theorem State.afterFrame_ie (s : State) (v : Byte) (l : Bool) : (s.afterFrame v l).ie = true := rfl
@[simp] theorem State.afterFrame_rxhist (s : State) (v : Byte) (l : Bool) : (s.afterFrame v l).rxhist = s.rxhist := rfl
@[simp] theorem State.afterFrame_host (s : State) (v : Byte) (l : Bool) :
    (s.afterFrame v l).host = { s.host with result := .none } := rfl
@[simp] theorem State.afterFrame_env (s : State) (v : Byte) (l : Bool) :
    (s.afterFrame v l).env = s.env.skipIrqs 9 := rfl
@[simp] theorem State.afterFrame_cfg (s : State) (v : Byte) (l : Bool) : (s.afterFrame v l).cfg = s.cfg := rfl

/-! ### What an operation leaves -/

/-- What SEND_BYTE's actions leave before the host is given its result. -/
theorem giveResult_runActions_sendByteActions (value : Byte) (isLast : Bool) (s : State) :
    (runActions (sendByteActions s.cfg value isLast) s).giveResult .none = s.afterFrame value isLast :=
  Host.Outcome.next.inj (exec_sendByte value isLast s)

/-- SEND_BYTE's actions leave the parameters as they were. -/
theorem runActions_sendByteActions_cfg (value : Byte) (isLast : Bool) (s : State) :
    (runActions (sendByteActions s.cfg value isLast) s).cfg = s.cfg := by
  simpa using congrArg State.cfg (giveResult_runActions_sendByteActions value isLast s)

/-- The result that the host was last given does not reach a later frame. -/
theorem interruptPoint_afterFrame_of_result (r : HostResult) (value : Byte) (isLast : Bool) (s : State) :
    (s.giveResult r).interruptPoint.afterFrame value isLast = s.interruptPoint.afterFrame value isLast := rfl

/-- CMD_LED_UPDATE in closed form (R166, R148): two frames, and an interrupt point between them. -/
theorem exec_cmdLedUpdate (m : Byte) (s : State) :
    exec (.cmdLedUpdate m) s = .next ((s.afterFrame 0x0E false).interruptPoint.afterFrame m true) := by
  have hsecond := giveResult_runActions_sendByteActions m true
    (runActions (sendByteActions s.cfg 0x0E false) s).interruptPoint
  rw [State.interruptPoint_cfg, runActions_sendByteActions_cfg] at hsecond
  calc exec (.cmdLedUpdate m) s
      = .next ((runActions (sendByteActions s.cfg 0x0E false ++ [State.interruptPoint] ++
          sendByteActions s.cfg m true) s).giveResult .none) := rfl
    _ = .next ((runActions (sendByteActions s.cfg 0x0E false) s).interruptPoint.afterFrame m true) := by
        rw [runActions_append, runActions_append, runActions_cons, runActions_nil, hsecond]
    _ = .next ((s.afterFrame 0x0E false).interruptPoint.afterFrame m true) := by
        rw [← giveResult_runActions_sendByteActions 0x0E false, interruptPoint_afterFrame_of_result]

/-- The states an operation can leave, called in state `s`: one for each that does not transmit; one frame for each that does,
but two for CMD_LED_UPDATE. -/
inductive OperationLeaves (s : State) : Instr → State → Prop
  | readPin : OperationLeaves s .readPin (s.recordRead.giveResult (.level (s.rx s.now)))
  | writePin (v : Level) : OperationLeaves s (.writePin v) ((s.drive v).giveResult .none)
  | delay (n : Nat) : OperationLeaves s (.delay n) ((s.delay n).giveResult .none)
  | startDetect : OperationLeaves s .startDetect (s.recordRead.giveResult (.truth (startSeen s.cfg (s.rx s.now))))
  | decodeFrame : OperationLeaves s .decodeFrame s.afterDecode
  | oneFrame (i : Instr) (value : Byte) (isLast : Bool) (h : transmits i = true) :
      OperationLeaves s i (s.afterFrame value isLast)
  | twoFrames (m : Byte) :
      OperationLeaves s (.cmdLedUpdate m) ((s.afterFrame 0x0E false).interruptPoint.afterFrame m true)

/-- Every operation completes and leaves one of those states. -/
theorem exec_leaves (i : Instr) (s : State) : ∃ t, exec i s = .next t ∧ OperationLeaves s i t := by
  cases i with
  | readPin => exact ⟨_, rfl, .readPin⟩
  | writePin v => exact ⟨_, rfl, .writePin v⟩
  | delay n => exact ⟨_, rfl, .delay n⟩
  | startDetect => exact ⟨_, rfl, .startDetect⟩
  | decodeFrame => exact ⟨_, exec_decodeFrame s, .decodeFrame⟩
  | sendByte value isLast => exact ⟨_, exec_sendByte value isLast s, .oneFrame _ value isLast rfl⟩
  | cmdReset => exact ⟨_, exec_sendByte 0x01 true s, .oneFrame _ 0x01 true rfl⟩
  | cmdBellOn => exact ⟨_, exec_sendByte 0x02 true s, .oneFrame _ 0x02 true rfl⟩
  | cmdBellOff => exact ⟨_, exec_sendByte 0x03 true s, .oneFrame _ 0x03 true rfl⟩
  | cmdClickOn => exact ⟨_, exec_sendByte 0x0A true s, .oneFrame _ 0x0A true rfl⟩
  | cmdClickOff => exact ⟨_, exec_sendByte 0x0B true s, .oneFrame _ 0x0B true rfl⟩
  | cmdLedUpdate m => exact ⟨_, exec_cmdLedUpdate m s, .twoFrames m⟩
  | cmdLayoutQuery => exact ⟨_, exec_sendByte 0x0F true s, .oneFrame _ 0x0F true rfl⟩

theorem operationLeaves_of_exec {i : Instr} {s t : State} (h : exec i s = .next t) : OperationLeaves s i t := by
  obtain ⟨u, hu, hleaves⟩ := exec_leaves i s
  obtain rfl := Host.Outcome.next.inj (hu.symm.trans h)
  exact hleaves

/-! ### The access matrix, column by column (R38) -/

namespace OperationLeaves

variable {s t : State} {i : Instr}

theorem rxRegisters (h : OperationLeaves s i t) (hi : i ≠ .decodeFrame) :
    t.rxsr = s.rxsr ∧ t.rxcnt = s.rxcnt ∧ t.rxout = s.rxout ∧ t.rxph = s.rxph := by
  cases h with
  | decodeFrame => exact absurd rfl hi
  | _ => exact ⟨rfl, rfl, rfl, rfl⟩

theorem txRegisters (h : OperationLeaves s i t) (hi : transmits i = false) :
    t.txsr = s.txsr ∧ t.txcnt = s.txcnt ∧ t.txlast = s.txlast ∧ t.txph = s.txph := by
  cases h with
  | oneFrame i value isLast htx => simp [htx] at hi
  | twoFrames m => cases hi
  | _ => exact ⟨rfl, rfl, rfl, rfl⟩

theorem outboundLine (h : OperationLeaves s i t) (hi : transmits i = false) (hw : ∀ v, i ≠ .writePin v) :
    t.txline = s.txline ∧ t.txhist = s.txhist := by
  cases h with
  | writePin v => exact absurd rfl (hw v)
  | oneFrame i value isLast htx => simp [htx] at hi
  | twoFrames m => cases hi
  | _ => exact ⟨rfl, rfl⟩

/-- Sending a frame ends with IE = 1, whatever it was; nothing else writes it (R30, R146). -/
theorem ie (h : OperationLeaves s i t) : t.ie = if transmits i then true else s.ie := by
  cases h with
  | oneFrame i value isLast htx => simp [htx]
  | _ => rfl

theorem rxReads (h : OperationLeaves s i t) (hi : readsLine i = false) : t.rxhist = s.rxhist := by
  cases h with
  | readPin | startDetect | decodeFrame => cases hi
  | _ => rfl

theorem clock (h : OperationLeaves s i t) (hi : i = .readPin ∨ i = .startDetect ∨ ∃ v, i = .writePin v) :
    t.now = s.now ∧ t.pend = s.pend ∧ t.env = s.env := by
  obtain rfl | rfl | ⟨v, rfl⟩ := hi <;> cases h with
  | oneFrame i value isLast htx => cases htx
  | _ => exact ⟨rfl, rfl, rfl⟩

theorem cfg (h : OperationLeaves s i t) : t.cfg = s.cfg := by
  cases h <;> rfl

/-- Of the host side an operation writes its result alone (R32). -/
theorem host (h : OperationLeaves s i t) : ∃ r, t.host = { s.host with result := r } := by
  cases h <;> exact ⟨_, rfl⟩

/-- Of the environment an operation uses interrupt draws alone. -/
theorem env (h : OperationLeaves s i t) : ∃ n, t.env = s.env.skipIrqs n := by
  cases h with
  | readPin | writePin | startDetect => exact ⟨0, rfl⟩
  | twoFrames m => exact ⟨9 + 1 + 9, by simp⟩
  | _ => exact ⟨_, rfl⟩

end OperationLeaves

/-- Settles O37. -/
theorem onlyTransmitsWriteIE : Obligations.OnlyTransmitsWriteIE := by
  intro i s
  obtain ⟨t, ht, hleaves⟩ := exec_leaves i s
  exact ⟨t, ht, hleaves.ie⟩

/-- Settles O38, column by column of the matrix. -/
theorem operationsKeepToTheAccessMatrix : Obligations.OperationsKeepToTheAccessMatrix := by
  intro i s
  obtain ⟨t, ht, hleaves⟩ := exec_leaves i s
  have hie : transmits i = false → t.ie = s.ie := fun hi => by simp [hleaves.ie, hi]
  obtain ⟨r, hhost⟩ := hleaves.host
  obtain ⟨n, henv⟩ := hleaves.env
  refine ⟨t, ht, hleaves.rxRegisters, hleaves.txRegisters, hleaves.outboundLine, hie, hleaves.rxReads, hleaves.clock,
    hleaves.cfg, ?_⟩
  simp [hhost, henv]

/-! ### Nothing of a former call reaches the next one -/

/-- The sampling instants depend on the clock, the parameters, IE, what is held and the environment alone (R55). -/
theorem sampleInstant_congr {s t : State} (hnow : s.now = t.now) (hcfg : s.cfg = t.cfg) (hie : s.ie = t.ie)
    (hpend : s.pend = t.pend) (henv : s.env = t.env) (k : Nat) : sampleInstant s k = sampleInstant t k := by
  obtain ⟨hstretch, -⟩ := stretchOver_congr (delaysBefore t.cfg k) s t hie hpend henv
  simp only [sampleInstant, hnow, hcfg, hstretch]

/-- What a receive leaves does not depend on what its registers held (R37). -/
theorem afterDecode_of_rxRegisters (s : State) (sr : BitVec 8) (cnt : BitVec 4) (out : BitVec 8) :
    { s with rxsr := sr, rxcnt := cnt, rxout := out }.afterDecode = s.afterDecode := by
  have hinstant : ∀ k, sampleInstant { s with rxsr := sr, rxcnt := cnt, rxout := out } k = sampleInstant s k :=
    sampleInstant_congr rfl rfl rfl rfl rfl
  obtain ⟨hstretch, hpend⟩ := stretchOver_congr (decodeDelays s.cfg) { s with rxsr := sr, rxcnt := cnt, rxout := out } s
    rfl rfl rfl
  simp only [State.afterDecode, sampledLevels, sampledReads, ninthRead, hinstant, hstretch, hpend, State.rx]

/-- Settles O14, by the closed form of DECODE_FRAME. -/
theorem receiverKeepsNothingBetweenCalls : Obligations.ReceiverKeepsNothingBetweenCalls := by
  intro s sr cnt out
  refine ⟨s.afterDecode, exec_decodeFrame s, ?_⟩
  rw [exec_decodeFrame, afterDecode_of_rxRegisters]

/-- What a frame leaves does not depend on what the transmitter's registers and IE held: it writes all of them. -/
theorem afterFrame_of_txRegisters (value : Byte) (isLast : Bool) (s : State) (sr : BitVec 8) (cnt : BitVec 3)
    (last b : Bool) :
    { s with txsr := sr, txcnt := cnt, txlast := last, ie := b }.afterFrame value isLast = s.afterFrame value isLast := rfl

/-- Settles O30, by the closed form of SEND_BYTE. -/
theorem transmitterKeepsNothingBetweenCalls : Obligations.TransmitterKeepsNothingBetweenCalls := by
  intro value isLast s sr cnt last b
  refine ⟨s.afterFrame value isLast, exec_sendByte value isLast s, ?_⟩
  rw [exec_sendByte, afterFrame_of_txRegisters]

end Sys2Proof.Machine
end

section
/-! PROOFS. Where an operation stands inside: at most one engine is busy (O39), and its phases only advance (O40). -/

namespace Sys2Proof.Machine

/-! ### What each action of a list does -/

/-- Each action of the list, run in any state, leaves a state that `R` relates to it. -/
def EachAction (R : State → State → Prop) (as : List Action) : Prop :=
  ∀ a ∈ as, ∀ s : State, R s (a s)

section EachAction

variable {R : State → State → Prop}

@[simp] theorem eachAction_nil : EachAction R [] := fun _ h => nomatch h

@[simp] theorem eachAction_cons (a : Action) (as : List Action) :
    EachAction R (a :: as) ↔ (∀ s : State, R s (a s)) ∧ EachAction R as :=
  List.forall_mem_cons

@[simp] theorem eachAction_append (as bs : List Action) :
    EachAction R (as ++ bs) ↔ EachAction R as ∧ EachAction R bs :=
  List.forall_mem_append

theorem EachAction.take {as : List Action} (h : EachAction R as) (n : Nat) : EachAction R (as.take n) :=
  fun a ha => h a (List.mem_of_mem_take ha)

/-- What each action of an operation keeps is as it was at every point of it. -/
theorem EachAction.stateAt {α : Type} {f : State → α} {as : List Action} (h : EachAction (fun s t => f t = f s) as)
    (n : Nat) (s : State) : f (stateAt as n s) = f s :=
  runActions_keeps f (as.take n) (h.take n) s

/-- The actions of DECODE_FRAME, part by part: before sample 0 at most a read, and else what both readings share. -/
theorem eachAction_decodeFrameActions (c : Params) (hread : ∀ s : State, R s s.recordRead)
    (hphase : ∀ p (s : State), R s (s.setRxPhase p)) (hcount : ∀ n (s : State), R s (s.setRxCount n))
    (hsample : ∀ s : State, R s s.takeSample) (hdelay : ∀ n (s : State), R s (s.delay n))
    (hlatch : ∀ s : State, R s s.latchRxOut) : EachAction R (decodeFrameActions c) := by
  have hlead : EachAction R (leadInActions c) := by
    unfold leadInActions ninthReadActions
    split
    · split <;> simp [hread, hcount]
    · simp [hphase, hcount, hdelay]
  simp [decodeFrameActions, hlead, sampleActions, laterSamples, nextSampleActions, tailActions, hphase, hcount, hsample,
    hdelay, hlatch]

/-- The actions of SEND_BYTE, of each form once. -/
theorem eachAction_sendByteActions (c : Params) (value : Byte) (isLast : Bool)
    (hie : ∀ b (s : State), R s (s.setIE b)) (hlatch : ∀ s : State, R s (s.latchTx value isLast))
    (hphase : ∀ p (s : State), R s (s.setTxPhase p)) (hdrive : ∀ v (s : State), R s (s.drive v))
    (hcount : ∀ n (s : State), R s (s.setTxCount n)) (hdelay : ∀ n (s : State), R s (s.delay n)) :
    EachAction R (sendByteActions c value isLast) := by
  have hdata : ∀ i (s : State), R s (s.driveData i) := fun i s => hdrive _ s
  have hstop : ∀ s : State, R s s.stopDelay := fun s => hdelay _ s
  have hmask : ∀ s : State, R s s.maskInterrupts := hie false
  have hrelease : ∀ s : State, R s s.releaseInterrupts := hie true
  simp [sendByteActions, dataActions, dataCellActions, hlatch, hphase, hdrive, hcount, hdelay, hdata, hstop, hmask,
    hrelease]

theorem eachAction_commandActions (c : Params) (row : CommandRow) (operand : Byte)
    (hsend : ∀ value isLast, EachAction R (sendByteActions c value isLast))
    (hpoint : ∀ s : State, R s s.interruptPoint) : EachAction R (commandActions c row operand) := by
  unfold commandActions
  split <;> simp [hsend, hpoint]

end EachAction

/-! ### At most one engine is busy (R29) -/

/-- A receive leaves the transmitter's phase alone. -/
theorem decodeFrameActions_keep_txph (c : Params) : EachAction (fun s t => t.txph = s.txph) (decodeFrameActions c) :=
  eachAction_decodeFrameActions c (by simp) (by simp) (by simp) (by simp) (by simp) (by simp)

/-- A transmit leaves the receiver's phase alone. -/
theorem sendByteActions_keep_rxph (c : Params) (value : Byte) (isLast : Bool) :
    EachAction (fun s t => t.rxph = s.rxph) (sendByteActions c value isLast) :=
  eachAction_sendByteActions c value isLast (by simp) (by simp) (by simp) (by simp) (by simp) (by simp)

/-- Only DECODE_FRAME moves the receiver's phase. -/
theorem operationActions_keep_rxph (c : Params) (i : Instr) (hi : i ≠ .decodeFrame) :
    EachAction (fun s t => t.rxph = s.rxph) (operationActions c i) := by
  cases i with
  | decodeFrame => exact absurd rfl hi
  | readPin | writePin v | delay n | startDetect => simp [operationActions]
  | sendByte value isLast => exact sendByteActions_keep_rxph c value isLast
  | cmdReset | cmdBellOn | cmdBellOff | cmdClickOn | cmdClickOff | cmdLedUpdate m | cmdLayoutQuery =>
    exact eachAction_commandActions c _ _ (sendByteActions_keep_rxph c) (by simp)

/-- Both engines rest after an operation that was called while both rested (R29). -/
theorem OperationLeaves.idle {s t : State} {i : Instr} (h : OperationLeaves s i t) (hrx : s.rxph = .idle)
    (htx : s.txph = .idle) : t.rxph = .idle ∧ t.txph = .idle := by
  cases h <;> simp [hrx, htx]

/-- Settles O39: the engine that an operation does not use keeps its phase, and that phase is idle. -/
theorem atMostOneEngineIsBusy : Obligations.AtMostOneEngineIsBusy := by
  intro i s hrx htx
  obtain ⟨t, ht, hleaves⟩ := exec_leaves i s
  refine ⟨fun n => ?_, t, ht, hleaves.idle hrx htx⟩
  by_cases hi : i = .decodeFrame
  · subst hi
    exact .inr (((decodeFrameActions_keep_txph s.cfg).stateAt n s).trans htx)
  · exact .inl (((operationActions_keep_rxph s.cfg i hi).stateAt n s).trans hrx)

/-! ### Phases only advance (R29) -/

/-- Along the run of a list from a state, the place `f` never falls. -/
def NeverFalls (f : State → Nat) : List Action → State → Prop
  | [], _ => True
  | a :: as, s => f s ≤ f (a s) ∧ NeverFalls f as (a s)

theorem NeverFalls.append {f : State → Nat} {as bs : List Action} {s : State} (has : NeverFalls f as s)
    (hbs : NeverFalls f bs (runActions as s)) : NeverFalls f (as ++ bs) s := by
  induction as generalizing s with
  | nil => exact hbs
  | cons a as ih =>
    obtain ⟨hfirst, hrest⟩ := has
    exact ⟨hfirst, ih hrest hbs⟩

theorem NeverFalls.le_stateAt {f : State → Nat} {as : List Action} {s : State} (h : NeverFalls f as s) (m : Nat) :
    f s ≤ f (stateAt as m s) := by
  induction as generalizing s m with
  | nil => simp [stateAt]
  | cons a as ih =>
    obtain ⟨hfirst, hrest⟩ := h
    cases m with
    | zero => exact Nat.le_refl _
    | succ m => exact hfirst.trans (ih hrest m)

theorem NeverFalls.stateAt_le_stateAt {f : State → Nat} {as : List Action} {s : State} (h : NeverFalls f as s)
    {n m : Nat} (hnm : n ≤ m) : f (stateAt as n s) ≤ f (stateAt as m s) := by
  induction as generalizing s n m with
  | nil => simp [stateAt]
  | cons a as ih =>
    cases n with
    | zero => exact h.le_stateAt m
    | succ n =>
      cases m with
      | zero => omega
      | succ m =>
        obtain ⟨-, hrest⟩ := h
        exact ih hrest (Nat.le_of_succ_le_succ hnm)

/-- Called at place `p` or before, the list never falls back, and it ends at place `q` or before. -/
def Climbs (f : State → Nat) (as : List Action) (p q : Nat) : Prop :=
  ∀ s : State, f s ≤ p → NeverFalls f as s ∧ f (runActions as s) ≤ q

theorem Climbs.append {f : State → Nat} {as bs : List Action} {p q q' r : Nat} (has : Climbs f as p q)
    (hbs : Climbs f bs q' r) (hq : q ≤ q') : Climbs f (as ++ bs) p r := by
  intro s hs
  obtain ⟨hfalls, hend⟩ := has s hs
  obtain ⟨hfalls', hend'⟩ := hbs (runActions as s) (hend.trans hq)
  exact ⟨hfalls.append hfalls', by rwa [runActions_append]⟩

/-- A point before the end of a list does not see what stands after it. -/
theorem stateAt_append_of_le (as bs : List Action) (n : Nat) (s : State) (h : n ≤ as.length) :
    stateAt (as ++ bs) n s = stateAt as n s := by
  rw [stateAt, List.take_append_of_le_length h, stateAt]

theorem Climbs.stateAt_le_stateAt {f : State → Nat} {as : List Action} {p q : Nat} (h : Climbs f as p q)
    (bs : List Action) {s : State} (hs : f s ≤ p) {n m : Nat} (hnm : n ≤ m) (hm : m ≤ as.length) :
    f (stateAt (as ++ bs) n s) ≤ f (stateAt (as ++ bs) m s) := by
  rw [stateAt_append_of_le as bs n s (hnm.trans hm), stateAt_append_of_le as bs m s hm]
  obtain ⟨hfalls, -⟩ := h s hs
  exact hfalls.stateAt_le_stateAt hnm

/-- The place of the receiver's phase. -/
def rxPlace (s : State) : Nat := s.rxph.place

/-- The place of the transmitter's phase. -/
def txPlace (s : State) : Nat := s.txph.place

@[simp] theorem RxPhase.place_waitFirst : RxPhase.waitFirst.place = 1 := rfl
@[simp] theorem RxPhase.place_sample (k : Fin 8) : (RxPhase.sample k).place = 2 + k.val := rfl
@[simp] theorem RxPhase.place_tail : RxPhase.tail.place = 10 := rfl
@[simp] theorem TxPhase.place_start : TxPhase.start.place = 1 := rfl
@[simp] theorem TxPhase.place_data (i : Fin 7) : (TxPhase.data i).place = 2 + i.val := rfl
@[simp] theorem TxPhase.place_stop : TxPhase.stop.place = 9 := rfl

theorem leadInActions_climbs (c : Params) : Climbs rxPlace (leadInActions c) 0 1 := by
  intro s hs
  have hplace : s.rxph.place ≤ 1 := hs.trans (Nat.zero_le 1)
  unfold leadInActions ninthReadActions
  split
  · split <;> simp [NeverFalls, rxPlace, hplace]
  · simp [NeverFalls, rxPlace, hplace]

theorem sampleActions_climbs (k : Fin 8) : Climbs rxPlace (sampleActions k) (2 + k.val) (2 + k.val) := by
  intro s hs
  simpa [sampleActions, NeverFalls, rxPlace] using hs

theorem nextSampleActions_climbs (c : Params) (k : Fin 8) :
    Climbs rxPlace (nextSampleActions c k) (2 + k.val) (2 + k.val) := by
  intro s hs
  simpa [nextSampleActions, sampleActions, NeverFalls, rxPlace] using hs

theorem laterSamples_climb (c : Params) : Climbs rxPlace (laterSamples c) 3 9 :=
  ((((((nextSampleActions_climbs c 1).append (nextSampleActions_climbs c 2) (by decide)).append
    (nextSampleActions_climbs c 3) (by decide)).append (nextSampleActions_climbs c 4) (by decide)).append
    (nextSampleActions_climbs c 5) (by decide)).append (nextSampleActions_climbs c 6) (by decide)).append
    (nextSampleActions_climbs c 7) (by decide)

/-- The tail of a receive before its last action, which is the return to idle. -/
def tailBeforeReturn (c : Params) : List Action :=
  [State.setRxPhase .tail, State.delay c.rxTailDelay, State.latchRxOut]

theorem tailBeforeReturn_climbs (c : Params) : Climbs rxPlace (tailBeforeReturn c) 10 10 := by
  intro s hs
  simpa [tailBeforeReturn, NeverFalls, rxPlace] using hs

/-- DECODE_FRAME before its last action. -/
def decodeBeforeReturn (c : Params) : List Action :=
  leadInActions c ++ sampleActions 0 ++ laterSamples c ++ tailBeforeReturn c

theorem decodeFrameActions_eq (c : Params) :
    decodeFrameActions c = decodeBeforeReturn c ++ [State.setRxPhase .idle] := by
  simp [decodeFrameActions, decodeBeforeReturn, tailActions, tailBeforeReturn]

theorem decodeBeforeReturn_climbs (c : Params) : Climbs rxPlace (decodeBeforeReturn c) 0 10 :=
  (((leadInActions_climbs c).append (sampleActions_climbs 0) (by decide)).append (laterSamples_climb c)
    (by decide)).append (tailBeforeReturn_climbs c) (by decide)

theorem startActions_climb (c : Params) (value : Byte) (isLast : Bool) :
    Climbs txPlace (startActions c value isLast) 0 1 := by
  intro s hs
  have hplace : s.txph.place ≤ 1 := hs.trans (Nat.zero_le 1)
  simp [startActions, NeverFalls, txPlace, hplace]

theorem dataCellActions_climb (c : Params) (i : Fin 7) :
    Climbs txPlace (dataCellActions c i) (2 + i.val) (2 + i.val) := by
  intro s hs
  simpa [dataCellActions, NeverFalls, txPlace] using hs

theorem dataActions_climb (c : Params) : Climbs txPlace (dataActions c) 2 8 :=
  ((((((dataCellActions_climb c 0).append (dataCellActions_climb c 1) (by decide)).append
    (dataCellActions_climb c 2) (by decide)).append (dataCellActions_climb c 3) (by decide)).append
    (dataCellActions_climb c 4) (by decide)).append (dataCellActions_climb c 5) (by decide)).append
    (dataCellActions_climb c 6) (by decide)

/-- The stop pattern of a frame before the return to idle and the release. -/
def stopBeforeReturn (c : Params) : List Action :=
  [State.setTxPhase .stop, State.drive c.txStopLevel, State.stopDelay]

theorem stopBeforeReturn_climbs (c : Params) : Climbs txPlace (stopBeforeReturn c) 9 9 := by
  intro s hs
  simpa [stopBeforeReturn, NeverFalls, txPlace] using hs

/-- SEND_BYTE before its last two actions. -/
def sendBeforeReturn (c : Params) (value : Byte) (isLast : Bool) : List Action :=
  startActions c value isLast ++ dataActions c ++ stopBeforeReturn c

theorem sendByteActions_eq_beforeReturn (c : Params) (value : Byte) (isLast : Bool) :
    sendByteActions c value isLast =
      sendBeforeReturn c value isLast ++ [State.setTxPhase .idle, State.releaseInterrupts] := rfl

theorem sendBeforeReturn_climbs (c : Params) (value : Byte) (isLast : Bool) :
    Climbs txPlace (sendBeforeReturn c value isLast) 0 9 :=
  ((startActions_climb c value isLast).append (dataActions_climb c) (by decide)).append (stopBeforeReturn_climbs c)
    (by decide)

/-- Settles O40: up to its return each operation climbs from the idle place. -/
theorem phasesOnlyAdvance : Obligations.PhasesOnlyAdvance := by
  intro s value isLast n m hrx htx hnm
  have hrxPlace : rxPlace s ≤ 0 := by rw [rxPlace, hrx]; decide
  have htxPlace : txPlace s ≤ 0 := by rw [txPlace, htx]; decide
  refine ⟨fun hm => ?_, fun hm => ?_⟩
  · rw [decodeFrameActions_eq] at hm ⊢
    rw [List.length_append, List.length_singleton] at hm
    exact (decodeBeforeReturn_climbs s.cfg).stateAt_le_stateAt _ hrxPlace hnm (by omega)
  · rw [sendByteActions_eq_beforeReturn] at hm ⊢
    rw [List.length_append, List.length_cons, List.length_singleton] at hm
    exact (sendBeforeReturn_climbs s.cfg value isLast).stateAt_le_stateAt _ htxPlace hnm (by omega)

end Sys2Proof.Machine
end

section
/-! PROOFS. The invariant of the machine: it holds at first use (O1, O2), the line shows what it says (O7), and every step keeps
it (O50) as well as the parameters (O49). The induction over what a step can do is made once, for any predicate. -/

namespace Sys2Proof.Machine

/-! ### First use -/

/-- Settles O1: the values that R40's table fixes. -/
theorem resetRestsAndIdlesLow : Obligations.ResetRestsAndIdlesLow :=
  ⟨rfl, rfl, rfl, rfl, rfl⟩

theorem historyInOrder_nil (now : Nat) : historyInOrder now [] :=
  ⟨.nil, fun _ h => nomatch h⟩

/-- First use meets the invariant: both histories are empty, and nothing has been counted. -/
theorem invariant_resetWith (c : Params) (hc : c.wellFormed = true) : Invariant (State.resetWith c) where
  rxIdle := rfl
  txIdle := rfl
  cfgLegal := hc
  txInOrder := historyInOrder_nil 0
  rxInOrder := historyInOrder_nil 0
  lineIsLast := rfl
  readsAreTrue := fun _ h => nomatch h
  warmup := Nat.zero_le _

/-- Settles O2. -/
theorem resetMeetsInvariant : Obligations.ResetMeetsInvariant :=
  ⟨invariant_resetWith, invariant_resetWith Params.default (Params.ofTpb_wellFormed 2 (by decide) (by decide))⟩

/-! ### Histories -/

theorem historyInOrder.mono {now now' : Nat} {h : Wave} (hh : historyInOrder now h) (hle : now ≤ now') :
    historyInOrder now' h := by
  obtain ⟨hsorted, hpast⟩ := hh
  exact ⟨hsorted, fun e he => (hpast e he).trans hle⟩

/-- An entry made now stays in order. -/
theorem historyInOrder.concat {now : Nat} {h : Wave} (hh : historyInOrder now h) (l : Level) :
    historyInOrder now (h ++ [(now, l)]) := by
  obtain ⟨hsorted, hpast⟩ := hh
  refine ⟨List.pairwise_append.2 ⟨hsorted, List.pairwise_singleton _ _, ?_⟩, ?_⟩
  · simpa using hpast
  · intro e he
    obtain he | rfl := by simpa using he
    · exact hpast e he
    · exact Nat.le_refl _

/-- Once all of a history is past, the line shows its last entry, or the idle level where it has none (R14). -/
theorem historyInOrder.lastAt_getD {now u : Nat} {h : Wave} (hh : historyInOrder now h) (hu : now ≤ u) (idle : Level) :
    (h.lastAt u).getD idle = lastLevel idle h := by
  obtain ⟨-, hpast⟩ := hh
  obtain rfl | ⟨w, e, rfl⟩ := h.eq_nil_or_concat
  · rfl
  · have he : e.1 ≤ u := (hpast e (by simp)).trans hu
    simp [List.concat_eq_append, Wave.lastAt_concat_of_le w e.1 e.2 u he, lastLevel]

/-- Settles O7: of the invariant it takes that the writes are past, and that TXLINE is the last of them. -/
theorem lineHoldsLastWrittenLevel : Obligations.LineHoldsLastWrittenLevel := by
  intro s hs u hu
  rw [State.tx, hs.txInOrder.lastAt_getD hu, hs.lineIsLast]

/-! ### What one action does to the lines -/

/-- One action of the thread: time does not go back, the parameters and the inbound line stay, at most one level is driven now,
and at most one is read now. -/
structure LineStep (s t : State) : Prop where
  now_le : s.now ≤ t.now
  cfg : t.cfg = s.cfg
  rxWave : t.env.rxWave = s.env.rxWave
  writes : (t.txhist = s.txhist ∧ t.txline = s.txline) ∨
    ∃ v, t.txhist = s.txhist ++ [(s.now, v)] ∧ t.txline = v
  reads : t.rxhist = s.rxhist ∨ t.rxhist = s.rxhist ++ [(s.now, s.rx s.now)]

/-- The inbound line is what its script and the free levels past it say, and nothing else. -/
theorem rx_eq_of_rxWave_eq {s t : State} (h : t.env.rxWave = s.env.rxWave) (u : Nat) : t.rx u = s.rx u := by
  rw [State.rx, State.rx, h]

/-- The part of the invariant that holds between any two actions, not only between two steps. -/
structure LinesConsistent (s : State) : Prop where
  txInOrder : historyInOrder s.now s.txhist
  rxInOrder : historyInOrder s.now s.rxhist
  lineIsLast : s.txline = lastLevel s.cfg.txIdleLevel s.txhist
  readsAreTrue : ∀ e ∈ s.rxhist, e.2 = s.rx e.1

theorem Invariant.linesConsistent {s : State} (h : Invariant s) : LinesConsistent s :=
  ⟨h.txInOrder, h.rxInOrder, h.lineIsLast, h.readsAreTrue⟩

theorem lastLevel_concat (idle : Level) (h : Wave) (u : Nat) (l : Level) : lastLevel idle (h ++ [(u, l)]) = l := by
  simp [lastLevel]

/-- Any such action keeps the lines consistent: what is driven or read is entered at the present tick (R36, R64). -/
theorem LinesConsistent.lineStep {s t : State} (h : LinesConsistent s) (hst : LineStep s t) : LinesConsistent t where
  txInOrder := by
    obtain ⟨hhist, -⟩ | ⟨v, hhist, -⟩ := hst.writes <;> rw [hhist]
    · exact h.txInOrder.mono hst.now_le
    · exact (h.txInOrder.concat v).mono hst.now_le
  rxInOrder := by
    obtain hhist | hhist := hst.reads <;> rw [hhist]
    · exact h.rxInOrder.mono hst.now_le
    · exact (h.rxInOrder.concat (s.rx s.now)).mono hst.now_le
  lineIsLast := by
    obtain ⟨hhist, hline⟩ | ⟨v, hhist, hline⟩ := hst.writes <;> rw [hhist, hline, hst.cfg]
    · exact h.lineIsLast
    · rw [lastLevel_concat]
  readsAreTrue := by
    intro e he
    rw [rx_eq_of_rxWave_eq hst.rxWave]
    obtain hhist | hhist := hst.reads <;> rw [hhist] at he
    · exact h.readsAreTrue e he
    · obtain he | rfl := by simpa using he
      · exact h.readsAreTrue e he
      · rfl

/-! ### Which actions are such -/

/-- An action that neither drives nor reads. -/
theorem LineStep.of_quiet {s t : State} (hnow : s.now ≤ t.now) (hcfg : t.cfg = s.cfg)
    (hwave : t.env.rxWave = s.env.rxWave) (htxhist : t.txhist = s.txhist) (htxline : t.txline = s.txline)
    (hrxhist : t.rxhist = s.rxhist) : LineStep s t :=
  ⟨hnow, hcfg, hwave, .inl ⟨htxhist, htxline⟩, .inl hrxhist⟩

/-- An action that reads the line at this tick, and else changes registers alone. -/
theorem LineStep.of_read {s t : State} (hnow : t.now = s.now) (hcfg : t.cfg = s.cfg)
    (hwave : t.env.rxWave = s.env.rxWave) (htxhist : t.txhist = s.txhist) (htxline : t.txline = s.txline)
    (hrxhist : t.rxhist = s.rxhist ++ [(s.now, s.rx s.now)]) : LineStep s t :=
  ⟨hnow.ge, hcfg, hwave, .inl ⟨htxhist, htxline⟩, .inr hrxhist⟩

theorem lineStep_drive (v : Level) (s : State) : LineStep s (s.drive v) :=
  ⟨Nat.le_refl _, rfl, rfl, .inr ⟨v, rfl, rfl⟩, .inl rfl⟩

theorem lineStep_recordRead (s : State) : LineStep s s.recordRead :=
  .of_read rfl rfl rfl rfl rfl rfl

theorem lineStep_interruptPoint (s : State) : LineStep s s.interruptPoint :=
  .of_quiet (Nat.le_add_right _ _) rfl rfl rfl rfl rfl

theorem lineStep_delay (n : Nat) (s : State) : LineStep s (s.delay n) :=
  .of_quiet (by simp [Nat.add_assoc]) rfl rfl rfl rfl rfl

theorem decodeFrameActions_lineStep (c : Params) : EachAction LineStep (decodeFrameActions c) :=
  eachAction_decodeFrameActions c lineStep_recordRead
    (fun _ _ => .of_quiet (Nat.le_refl _) rfl rfl rfl rfl rfl)
    (fun _ _ => .of_quiet (Nat.le_refl _) rfl rfl rfl rfl rfl)
    (fun _ => .of_read rfl rfl rfl rfl rfl rfl) lineStep_delay
    (fun _ => .of_quiet (Nat.le_refl _) rfl rfl rfl rfl rfl)

theorem sendByteActions_lineStep (c : Params) (value : Byte) (isLast : Bool) :
    EachAction LineStep (sendByteActions c value isLast) :=
  eachAction_sendByteActions c value isLast
    (fun _ _ => .of_quiet (Nat.le_refl _) rfl rfl rfl rfl rfl)
    (fun _ => .of_quiet (Nat.le_refl _) rfl rfl rfl rfl rfl)
    (fun _ _ => .of_quiet (Nat.le_refl _) rfl rfl rfl rfl rfl) lineStep_drive
    (fun _ _ => .of_quiet (Nat.le_refl _) rfl rfl rfl rfl rfl) lineStep_delay

theorem operationActions_lineStep (c : Params) (i : Instr) : EachAction LineStep (operationActions c i) := by
  cases i with
  | readPin | startDetect => simpa [operationActions] using lineStep_recordRead
  | writePin v => simpa [operationActions] using lineStep_drive v
  | delay n => simpa [operationActions] using lineStep_delay n
  | decodeFrame => exact decodeFrameActions_lineStep c
  | sendByte value isLast => exact sendByteActions_lineStep c value isLast
  | cmdReset | cmdBellOn | cmdBellOff | cmdClickOn | cmdClickOff | cmdLedUpdate m | cmdLayoutQuery =>
    exact eachAction_commandActions c _ _ (sendByteActions_lineStep c) lineStep_interruptPoint

theorem LinesConsistent.runActions {as : List Action} (has : EachAction LineStep as) {s : State}
    (hs : LinesConsistent s) : LinesConsistent (runActions as s) := by
  induction as generalizing s with
  | nil => exact hs
  | cons a as ih =>
    obtain ⟨ha, has'⟩ := (eachAction_cons a as).1 has
    exact ih has' (hs.lineStep (ha s))

theorem LinesConsistent.exec {i : Instr} {s t : State} (hs : LinesConsistent s) (h : exec i s = .next t) :
    LinesConsistent t := by
  obtain ⟨r, hr⟩ := exec_eq_runActions i s
  obtain rfl := Host.Outcome.next.inj (hr.symm.trans h)
  exact (hs.runActions (operationActions_lineStep s.cfg i)).lineStep
    (.of_quiet (Nat.le_refl _) rfl rfl rfl rfl rfl)

/-! ### What every step keeps, by the parts a step is made of -/

/-- Each part a step is made of keeps `P`: an operation, an interrupt point, what is done outside the block, and the host side's
own notes. -/
structure KeptByParts (P : State → Prop) : Prop where
  exec : ∀ (i : Instr) (s t : State), exec i s = .next t → P s → P t
  interruptPoint : ∀ s : State, P s → P s.interruptPoint
  surroundingWork : ∀ s : State, P s → P s.surroundingWork
  setIE : ∀ (b : Bool) (s : State), P s → P (s.setIE b)
  acceptCode : ∀ (code : Byte) (s : State), P s → P (s.acceptCode code)
  setQueue : ∀ (q : List HostAction) (s : State), P s → P (s.setQueue q)
  setLoop : ∀ (p : LoopPhase) (s : State), P s → P (s.setLoop p)
  noteReturn : ∀ (i : Instr) (s : State), P s → P (s.noteReturn i)
  noteOutside : ∀ s : State, P s → P s.noteOutside
  takeLed : ∀ s : State, P s → P s.takeLed

namespace KeptByParts

variable {P : State → Prop} {s t : State}

/-- An operation, and then what `f` does after it. -/
theorem andThen_exec (hP : KeptByParts P) {i : Instr} {f : State → State} (hf : ∀ u, P u → P (f u)) (hs : P s)
    (h : andThen (Machine.exec i s) f = .next t) : P t := by
  obtain ⟨u, hu, rfl⟩ := (andThen_eq_next _ _ _).1 h
  exact hf u (hP.exec i s u hu hs)

theorem runHostAction (hP : KeptByParts P) {a : HostAction} (hs : P s) (h : Machine.runHostAction a s = .next t) : P t := by
  cases a with
  | invoke c =>
    obtain ⟨i, -, hi⟩ | ⟨e, -, he⟩ := invoke_cases c s
    · exact hP.andThen_exec (fun u hu => hP.interruptPoint _ (hP.noteReturn i u hu)) hs (hi.symm.trans h)
    · cases he.symm.trans h
  | writeIE b =>
    obtain rfl := Host.Outcome.next.inj h
    exact hP.interruptPoint _ (hP.noteOutside _ (hP.setIE b s hs))
  | work =>
    obtain rfl := Host.Outcome.next.inj h
    exact hP.interruptPoint _ (hP.surroundingWork s hs)

theorem updateLeds (hP : KeptByParts P) (hs : P s) (h : Machine.updateLeds s = .next t) : P t := by
  obtain ⟨-, hnone⟩ | ⟨b, -, hsome⟩ := updateLeds_cases s
  · obtain rfl := Host.Outcome.next.inj (hnone.symm.trans h)
    exact hs
  · exact hP.andThen_exec (hP.noteReturn _) (hP.takeLed s hs) (hsome.symm.trans h)

theorem loopIdle (hP : KeptByParts P) (hs : P s) (h : Machine.loopIdle s = .next t) : P t := by
  obtain ⟨u, hu, rfl⟩ := (andThen_eq_next _ _ _).1 h
  have hupdated : P u := hP.updateLeds (hP.surroundingWork s hs) hu
  exact hP.interruptPoint _ (hP.setLoop .flush u hupdated)

theorem loopStep (hP : KeptByParts P) (hs : P s) (h : Machine.loopStep s = .next t) : P t := by
  unfold Machine.loopStep at h
  cases hloop : s.host.loop <;> rw [hloop] at h
  case poll =>
    exact hP.andThen_exec
      (fun u hu => hP.interruptPoint _ (hP.setLoop _ _ (hP.noteReturn .startDetect u hu))) hs h
  case receive =>
    exact hP.andThen_exec (fun u hu => hP.interruptPoint _ (hP.setLoop .flush _
      (hP.acceptCode u.rxout _ (hP.noteReturn .decodeFrame u hu)))) hs h
  case idle => exact hP.loopIdle hs h
  case flush =>
    obtain rfl := Host.Outcome.next.inj h
    exact hP.interruptPoint _ (hP.setLoop .poll _ (hP.surroundingWork s hs))

/-- What each part keeps, every step keeps. -/
theorem step (hP : KeptByParts P) (hs : P s) (h : Machine.step s = .next t) : P t := by
  obtain ⟨-, hloop⟩ | ⟨a, rest, -, haction⟩ := step_cases s
  · exact hP.loopStep hs (hloop.symm.trans h)
  · exact hP.runHostAction (hP.setQueue rest s hs) (haction.symm.trans h)

end KeptByParts

/-! ### Parameters and the inbound line -/

/-- The parameters are `c`, and the script of the inbound line is `w`. -/
def HasInputs (c : Params) (w : Wave) (s : State) : Prop := s.cfg = c ∧ s.env.rxWave = w

theorem HasInputs.exec {c : Params} {w : Wave} (i : Instr) (s t : State) (h : exec i s = .next t)
    (hs : HasInputs c w s) : HasInputs c w t := by
  have hleaves := operationLeaves_of_exec h
  obtain ⟨hcfg, hwave⟩ := hs
  obtain ⟨n, henv⟩ := hleaves.env
  exact ⟨hleaves.cfg.trans hcfg, by rw [henv, skipIrqs_rxWave, hwave]⟩

theorem hasInputs_keptByParts (c : Params) (w : Wave) : KeptByParts (HasInputs c w) where
  exec := HasInputs.exec
  interruptPoint _ h := h
  surroundingWork _ h := h
  setIE _ _ h := h
  acceptCode code s h := by simpa [HasInputs] using h
  setQueue _ _ h := h
  setLoop _ _ h := h
  noteReturn _ _ h := h
  noteOutside _ h := h
  takeLed _ h := h

/-- Settles O49. -/
theorem parametersNeverChange : Obligations.ParametersNeverChange := by
  intro s t h
  obtain ⟨hcfg, hwave⟩ := (hasInputs_keptByParts s.cfg s.env.rxWave).step ⟨rfl, rfl⟩ h
  exact ⟨hcfg, hwave, rx_eq_of_rxWave_eq hwave⟩

/-! ### The invariant -/

/-- The invariant holds again where the lines are consistent, both engines rest, and the warm-up count stays legal. -/
theorem Invariant.of_linesConsistent {s t : State} (hs : Invariant s) (hlines : LinesConsistent t)
    (hcfg : t.cfg = s.cfg) (hrx : t.rxph = .idle) (htx : t.txph = .idle)
    (hseen : t.host.reportsSeen.toNat ≤ s.cfg.warmupFrames) : Invariant t where
  rxIdle := hrx
  txIdle := htx
  cfgLegal := by rw [hcfg, hs.cfgLegal]
  txInOrder := hlines.txInOrder
  rxInOrder := hlines.rxInOrder
  lineIsLast := hlines.lineIsLast
  readsAreTrue := hlines.readsAreTrue
  warmup := by rwa [hcfg]

/-- An operation ends with both engines at rest, and does not count (R29, R38). -/
theorem Invariant.exec (i : Instr) (s t : State) (h : exec i s = .next t) (hs : Invariant s) : Invariant t := by
  have hleaves := operationLeaves_of_exec h
  obtain ⟨hrx, htx⟩ := hleaves.idle hs.rxIdle hs.txIdle
  obtain ⟨r, hhost⟩ := hleaves.host
  exact hs.of_linesConsistent (hs.linesConsistent.exec h) hleaves.cfg hrx htx (by rw [hhost]; exact hs.warmup)

/-- What neither drives nor reads, moves no phase and does not count keeps the invariant. -/
theorem Invariant.of_quiet {s t : State} (hs : Invariant s) (hnow : s.now ≤ t.now) (hcfg : t.cfg = s.cfg)
    (hwave : t.env.rxWave = s.env.rxWave) (htxhist : t.txhist = s.txhist) (htxline : t.txline = s.txline)
    (hrxhist : t.rxhist = s.rxhist) (hrx : t.rxph = s.rxph) (htx : t.txph = s.txph)
    (hseen : t.host.reportsSeen.toNat ≤ s.cfg.warmupFrames) : Invariant t :=
  hs.of_linesConsistent (hs.linesConsistent.lineStep (.of_quiet hnow hcfg hwave htxhist htxline hrxhist)) hcfg
    (hrx.trans hs.rxIdle) (htx.trans hs.txIdle) hseen

/-- A count of fewer than `n` reports goes up to `n` at most. -/
theorem toNat_add_one_le {b : BitVec 8} {n : Nat} (h : b.toNat < n) : (b + 1).toNat ≤ n := by
  rw [BitVec.toNat_add]
  exact (Nat.mod_le _ _).trans h

/-- A code is counted only while the warm-up lasts (R186). -/
theorem acceptCode_reportsSeen_le (code : Byte) (s : State) (h : s.host.reportsSeen.toNat ≤ s.cfg.warmupFrames) :
    (s.acceptCode code).host.reportsSeen.toNat ≤ s.cfg.warmupFrames := by
  obtain ⟨hlt, heq⟩ | ⟨-, heq⟩ := acceptCode_cases code s <;> rw [heq]
  · exact toNat_add_one_le hlt
  · exact h

theorem invariant_keptByParts : KeptByParts Invariant where
  exec := Invariant.exec
  interruptPoint s h := h.of_quiet (by simp) rfl rfl rfl rfl rfl rfl rfl h.warmup
  surroundingWork s h := h.of_quiet (by simp) rfl rfl rfl rfl rfl rfl rfl h.warmup
  setIE b s h := h.of_quiet (Nat.le_refl _) rfl rfl rfl rfl rfl rfl rfl h.warmup
  acceptCode code s h :=
    h.of_quiet (by simp) (by simp) (by simp) (by simp) (by simp) (by simp) (by simp) (by simp)
      (acceptCode_reportsSeen_le code s h.warmup)
  setQueue q s h := h.of_quiet (Nat.le_refl _) rfl rfl rfl rfl rfl rfl rfl h.warmup
  setLoop p s h := h.of_quiet (Nat.le_refl _) rfl rfl rfl rfl rfl rfl rfl h.warmup
  noteReturn i s h := h.of_quiet (Nat.le_refl _) rfl rfl rfl rfl rfl rfl rfl h.warmup
  noteOutside s h := h.of_quiet (Nat.le_refl _) rfl rfl rfl rfl rfl rfl rfl h.warmup
  takeLed s h := h.of_quiet (Nat.le_refl _) rfl rfl rfl rfl rfl rfl rfl h.warmup

/-- Settles O50: each part a step is made of keeps the invariant. -/
theorem everyStepKeepsTheInvariant : Obligations.EveryStepKeepsTheInvariant :=
  fun _ _ hs h => invariant_keptByParts.step hs h

/-! ### The host's write of IE -/

/-- Settles O51: where the host has asked for something, that is the step. -/
theorem hostWriteOfIEIsTransparent : Obligations.HostWriteOfIEIsTransparent := by
  intro s b rest hqueue
  obtain ⟨hempty, -⟩ | ⟨a, rest', hnext, hstep⟩ := step_cases s
  · cases hempty.symm.trans hqueue
  · cases hnext.symm.trans hqueue
    exact hstep

end Sys2Proof.Machine
end

section
/-! PROOFS. The outbound line, and what a receive makes of an inbound one: a level driven again (O6), where the samples fall
(O16), when they fall in their cells (O18, O20), and the round trips of the two rigs (O57, O58). -/

namespace Sys2Proof

/-! ### R10's constraints and an inverter, by name -/

/-- R10's constraints on the bit period. -/
theorem Params.wellFormed_tpb {c : Params} (h : c.wellFormed = true) : 2 ≤ c.tpb ∧ c.tpb % 2 = 0 := by
  simp only [Params.wellFormed, Params.tpbAtLeastTwo, Params.tpbEven, Bool.and_eq_true, decide_eq_true_eq,
    beq_iff_eq] at h
  omega

/-- R10's constraints on the outbound levels. -/
theorem Params.wellFormed_txLevels {c : Params} (h : c.wellFormed = true) :
    c.txStartLevel = c.txIdleLevel.inv ∧ c.txStopLevel = c.txIdleLevel := by
  simp only [Params.wellFormed, Params.startOpposesIdle, Params.stopIsIdle, Bool.and_eq_true, beq_iff_eq] at h
  tauto

theorem Level.inv_ofBit (b : Bool) : (Level.ofBit b).inv = Level.ofBit (!b) := by cases b <;> rfl

end Sys2Proof

namespace Sys2Proof.Machine

/-! ### A write of PORT_TX (O6) -/

/-- A level driven is on the line from this tick on, and no tick before it changes (R14, R112). -/
theorem drive_tx (v : Level) (s : State) (u : Nat) : (s.drive v).tx u = if s.now ≤ u then v else s.tx u := by
  simp only [State.tx, State.drive_txhist, State.drive_cfg, Wave.lastAt_append, Wave.lastAt_cons, Wave.lastAt_nil]
  split <;> rfl

/-- Settles O6: from now on the line shows TXLINE already (O7), and before now a write changes nothing. -/
theorem rewritingTheLevelMakesNoEdge : Obligations.RewritingTheLevelMakesNoEdge := by
  intro s hs
  refine ⟨(s.drive s.txline).giveResult .none, rfl, rfl, fun u => ?_⟩
  calc ((s.drive s.txline).giveResult .none).tx u
      = if s.now ≤ u then s.txline else s.tx u := drive_tx s.txline s u
    _ = s.tx u := by
      split
      · exact (lineHoldsLastWrittenLevel s hs u ‹_›).symm
      · rfl

/-! ### The sampling instants (O16, O18) -/

/-- R55's instant of sample `k`, where the start level is no data bit. -/
theorem sampleInstant_of_startNotBit0 {s : State} (h : s.cfg.rxStartIsBit0 = false) (k : Nat) :
    sampleInstant s k = s.now + s.cfg.rxFirstDelay + k * s.cfg.tpb + State.stretchOver (k + 1) s := by
  simp [sampleInstant, firstSampleOffset, delaysBefore, h]

theorem ninthRead_of_startNotBit0 {s : State} (h : s.cfg.rxStartIsBit0 = false) : ninthRead s = [] := by
  simp [ninthRead, h]

theorem sampledReads_eq_readsUpTo (s : State) : sampledReads s = readsUpTo s 8 := rfl

/-- Settles O16: J is the total stretch of the delays before a sample. -/
theorem samplesFallAtTheStatedInstants : Obligations.SamplesFallAtTheStatedInstants := by
  intro s hbit0
  refine ⟨s.afterDecode, fun k => State.stretchOver (k + 1) s, exec_decodeFrame s,
    fun k => stretchOver_le_succ (k + 1) s, fun hie k => stretchOver_of_masked (k + 1) s hie, ?_⟩
  have hreads : s.afterDecode.rxhist = s.rxhist ++ (ninthRead s ++ sampledReads s) := rfl
  rw [hreads, ninthRead_of_startNotBit0 hbit0, List.nil_append, sampledReads_eq_readsUpTo]
  simp only [readsUpTo, sampleInstant_of_startNotBit0 hbit0]

/-- At the default phase sample `k` falls in its cell exactly when the latency and the stretch before it stay under half a bit
period: the phase puts it in the middle of the cell, and both only make it later (R56). -/
theorem sample_in_cell_iff {s : State} {te : Nat} (heven : s.cfg.tpb % 2 = 0) (hbit0 : s.cfg.rxStartIsBit0 = false)
    (hphase : s.cfg.rxFirstDelay = 3 * s.cfg.tpb / 2) (hte : te ≤ s.now) (k : Nat) :
    (te + (k + 1) * s.cfg.tpb ≤ sampleInstant s k ∧ sampleInstant s k < te + (k + 2) * s.cfg.tpb) ↔
      (s.now - te) + State.stretchOver (k + 1) s < s.cfg.tpb / 2 := by
  rw [sampleInstant_of_startNotBit0 hbit0, hphase, Nat.add_mul, Nat.add_mul]
  omega

/-- At the default phase the last sample decides whether a call is aligned, for no sample is stretched more (R56). -/
theorem aligned_iff_late_lt {s : State} {te : Nat} (heven : s.cfg.tpb % 2 = 0) (hbit0 : s.cfg.rxStartIsBit0 = false)
    (hphase : s.cfg.rxFirstDelay = 3 * s.cfg.tpb / 2) (hte : te ≤ s.now) :
    Aligned s te ↔ (s.now - te) + State.stretchOver 8 s < s.cfg.tpb / 2 := by
  have hcell := sample_in_cell_iff heven hbit0 hphase hte
  constructor
  · intro h
    exact (hcell 7).1 (h 7 (by decide))
  · intro h k hk
    have hmono : State.stretchOver (k + 1) s ≤ State.stretchOver 8 s := stretchOver_mono s hk
    exact (hcell k).2 (by omega)

/-- Settles O18. -/
theorem alignedIffLateByLessThanHalfABit : Obligations.AlignedIffLateByLessThanHalfABit := by
  intro s te hwf hbit0 hphase hte
  obtain ⟨-, heven⟩ := Params.wellFormed_tpb hwf
  exact aligned_iff_late_lt heven hbit0 hphase hte

/-! ### The byte of an aligned call -/

/-- Of the levels shifted in, the one that `7 - i` others follow stands at place `i` (R87, R90). -/
theorem getLsbD_assemble (c : Params) (r : Byte) (ls : List Level) (i k : Nat) (l : Level) (hi : i < 8)
    (hik : i + ls.length = k + 8) (hl : ls[k]? = some l) : (assemble c r ls).getLsbD i = logicalBit c l := by
  induction ls using List.reverseRecOn generalizing i with
  | nil => simp at hl
  | append_singleton ls m ih =>
    rw [List.length_append, List.length_singleton] at hik
    rw [assemble_concat, getLsbD_shiftIn _ _ i hi]
    split
    · rw [List.getElem?_append_left (by omega)] at hl
      exact ih (i + 1) (by omega) (by omega) hl
    · obtain rfl : k = ls.length := by omega
      obtain rfl : m = l := by simpa using hl
      rfl

/-- Bit `k` of the byte received is the logical bit of sample `k` (R87, R127). -/
theorem afterDecode_rxout_getLsbD (s : State) (k : Nat) (hk : k < 8) :
    s.afterDecode.rxout.getLsbD k = logicalBit s.cfg (s.rx (sampleInstant s k)) := by
  have hlevels : sampledLevels s = (readsUpTo s 8).map (·.2) := rfl
  exact getLsbD_assemble s.cfg 0 (sampledLevels s) k k _ hk rfl (by simp [hlevels, readsUpTo, hk])

/-- The receiver reads back the bit that an inbound level carries (R12, R81, R126). -/
@[simp] theorem logicalBit_inboundLevel (c : Params) (b : Bool) : logicalBit c (inboundLevel c b) = b := by
  unfold logicalBit inboundLevel
  split <;> simp

/-- An aligned call receives the byte whose bits the line carries in the eight cells after the start cell, whatever it shows
outside of them (R56, R128). -/
theorem afterDecode_rxout_of_aligned {s : State} {te : Nat} {b : Byte} (haligned : Aligned s te)
    (hcells : ∀ k : Fin 8, ∀ t, te + (k.val + 1) * s.cfg.tpb ≤ t → t < te + (k.val + 2) * s.cfg.tpb →
      s.rx t = inboundLevel s.cfg (b.getLsbD k.val)) : s.afterDecode.rxout = b := by
  refine BitVec.eq_of_getLsbD_eq fun k hk => ?_
  obtain ⟨hfrom, hto⟩ := haligned k hk
  rw [afterDecode_rxout_getLsbD s k hk, hcells ⟨k, hk⟩ _ hfrom hto, logicalBit_inboundLevel]

/-! ### Bounded latency and jitter (O20) -/

/-- A service takes at most the ticks drawn for it (R204). -/
theorem stretch_le_ticks (s : State) : s.stretch ≤ (s.env.irqAt 0).ticks := by
  unfold State.stretch serviceTicks
  split
  · exact Nat.le_refl _
  · exact Nat.zero_le _

/-- Bounded draws bound the total stretch (R10, R204). -/
theorem stretchOver_le_of_jitterBounded {n : Nat} {s : State} (h : JitterBounded n s) :
    State.stretchOver n s ≤ n * s.cfg.irqJitterMax := by
  induction n with
  | zero => exact Nat.zero_le _
  | succ n ih =>
    obtain ⟨-, henv, -⟩ := interruptPoints_spec n s
    have hdraws : State.stretchOver n s ≤ n * s.cfg.irqJitterMax := ih fun k hk => h k (by omega)
    have hlast : (State.interruptPoints n s).stretch ≤ s.cfg.irqJitterMax :=
      calc (State.interruptPoints n s).stretch
          ≤ ((State.interruptPoints n s).env.irqAt 0).ticks := stretch_le_ticks _
        _ = (s.env.irqAt n).ticks := by simp [henv]
        _ ≤ s.cfg.irqJitterMax := h n (Nat.lt_succ_self n)
    rw [stretchOver_succ, Nat.succ_mul]
    exact Nat.add_le_add hdraws hlast

/-- Settles O20: the two bounds make the call aligned (O18). -/
theorem boundedDisturbanceIsReceived : Obligations.BoundedDisturbanceIsReceived := by
  intro s te b hwf hbit0 hphase hframe ⟨hte, hlatency⟩ hjitter hbounds
  obtain ⟨-, heven⟩ := Params.wellFormed_tpb hwf
  have hstretch := stretchOver_le_of_jitterBounded hjitter
  have haligned : Aligned s te := (aligned_iff_late_lt heven hbit0 hphase hte).2 (by omega)
  have hbyte : s.afterDecode.rxout = b := afterDecode_rxout_of_aligned haligned hframe.data
  exact ⟨s.afterDecode, exec_decodeFrame s, hbyte, congrArg HostResult.code hbyte⟩

/-! ### The round trips of the two rigs (O57, O58) -/

/-- The seven bits sent, and above them the stop level as a receiver with RX_INVERT reads it (90_conflicts.md C7). -/
def sentByte (value : Byte) : Byte := (value &&& 0x7F) ||| 0x80

theorem getLsbD_sentByte (value : Byte) (k : Nat) (hk : k < 8) :
    (sentByte value).getLsbD k = if k < 7 then value.getLsbD k else true := by
  unfold sentByte
  interval_cases k <;> simp

theorem complement_sentByte (value : Byte) : ~~~sentByte value = ~~~value &&& 0x7F := by
  refine BitVec.eq_of_getLsbD_eq fun k hk => ?_
  rw [BitVec.getLsbD_not, getLsbD_sentByte value k hk]
  interval_cases k <;> simp

/-- The sender of both rigs (95_test_vectors.md 3.4): inverted data on a line that idles low, and a start pulse of one cell. -/
structure RigSender (c : Params) : Prop where
  legal : c.wellFormed = true
  inverts : c.txInvert = true
  idlesLow : c.txIdleLevel = .low
  oneStartCell : c.txStartCells = 1

/-- At its start the sender's line is high. -/
theorem RigSender.lastAt_start {c : Params} (hc : RigSender c) (h : Wave) (ts : Nat) (value : Byte) :
    (h ++ frameWrites c ts value).lastAt ts = some .high := by
  obtain ⟨htpb, -⟩ := Params.wellFormed_tpb hc.legal
  obtain ⟨hstart, -⟩ := Params.wellFormed_txLevels hc.legal
  rw [lastAt_frame_start h c ts value ts (Nat.le_refl _) (by rw [hc.oneStartCell]; omega), hstart, hc.idlesLow]
  rfl

/-- In the eight cells after the start pulse the sender's line carries the sent byte, each bit inverted; the eighth cell is the
first of the stop pattern. -/
theorem RigSender.lastAt_cell {c : Params} (hc : RigSender c) (h : Wave) (ts : Nat) (value : Byte) (k u : Nat) (hk : k < 8)
    (hfrom : ts + (k + 1) * c.tpb ≤ u) (hto : u < ts + (k + 2) * c.tpb) :
    (h ++ frameWrites c ts value).lastAt u = some (Level.ofBit ((sentByte value).getLsbD k)).inv := by
  rw [getLsbD_sentByte value k hk]
  split
  · have hplace : c.txStartCells + k = k + 1 := by rw [hc.oneStartCell, Nat.add_comm]
    rw [lastAt_frame_data h c ts value u k ‹_› (by rwa [hplace]) (by rwa [hplace])]
    simp [dataLevel, outboundLevel, hc.inverts]
  · obtain rfl : k = 7 := by omega
    obtain ⟨-, hstop⟩ := Params.wellFormed_txLevels hc.legal
    rw [lastAt_frame_stop h c ts value u (by rwa [hc.oneStartCell]), hstop, hc.idlesLow]
    rfl

/-- The receiver of both rigs: it starts with the sender, at `ts`, at the default phase, and is held up by less than half a bit
period. -/
structure RigReceiver (tpb ts : Nat) (r : State) : Prop where
  samePeriod : r.cfg.tpb = tpb
  even : tpb % 2 = 0
  inverts : r.cfg.rxInvert = true
  startNotBit0 : r.cfg.rxStartIsBit0 = false
  defaultPhase : r.cfg.rxFirstDelay = 3 * r.cfg.tpb / 2
  startsWithSender : r.now = ts
  barelyStretched : State.stretchOver 8 r < r.cfg.tpb / 2

theorem RigReceiver.aligned {tpb ts : Nat} {r : State} (hr : RigReceiver tpb ts r) : Aligned r ts := by
  have hnow := hr.startsWithSender
  have hlate := hr.barelyStretched
  have heven : r.cfg.tpb % 2 = 0 := by rw [hr.samePeriod, hr.even]
  exact (aligned_iff_late_lt heven hr.startNotBit0 hr.defaultPhase hnow.ge).2 (by omega)

/-- Such a receiver sees the start condition and receives what the line carries in the eight cells after the start. -/
theorem RigReceiver.receives {tpb ts : Nat} {r : State} {b : Byte} (hr : RigReceiver tpb ts r)
    (hstart : r.rx ts = r.cfg.rxActiveLevel)
    (hcells : ∀ k u, k < 8 → ts + (k + 1) * tpb ≤ u → u < ts + (k + 2) * tpb →
      r.rx u = (Level.ofBit (b.getLsbD k)).inv) :
    (∃ d, exec .startDetect r = .next d ∧ d.host.result = .truth true) ∧
      ∃ u, exec .decodeFrame r = .next u ∧ u.rxout = b := by
  refine ⟨⟨_, rfl, ?_⟩, r.afterDecode, exec_decodeFrame r, ?_⟩
  · have hseen : startSeen r.cfg (r.rx r.now) = true := by rw [hr.startsWithSender, hstart]; exact beq_self_eq_true _
    exact congrArg HostResult.truth hseen
  · refine afterDecode_rxout_of_aligned hr.aligned fun k u hfrom hto => ?_
    rw [hr.samePeriod] at hfrom hto
    rw [hcells k u k.isLt hfrom hto]
    simp [inboundLevel, hr.inverts]

/-- Where the script of the inbound line says something, that is the level. -/
theorem rx_of_lastAt {r : State} {w : Wave} {u : Nat} {l : Level} (hw : r.env.rxWave = w) (hl : w.lastAt u = some l) :
    r.rx u = l := by
  rw [State.rx, hw, hl]
  rfl

/-- Settles O57: the receiver's inversion undoes the sender's. -/
theorem roundTripInRigA : Obligations.RoundTripInRigA := by
  intro s t r value isLast hwf htxInvert hidle hstartCells hsend htpb hrxIdle hrxInvert hbit0 hphase hwave hnow hstretch
  obtain rfl := Host.Outcome.next.inj ((exec_sendByte value isLast s).symm.trans hsend)
  obtain ⟨-, heven⟩ := Params.wellFormed_tpb hwf
  have hsender : RigSender s.cfg := ⟨hwf, htxInvert, hidle, hstartCells⟩
  have hreceiver : RigReceiver s.cfg.tpb s.now r := ⟨htpb, heven, hrxInvert, hbit0, hphase, hnow, hstretch⟩
  refine hreceiver.receives ?_ fun k u hk hfrom hto => ?_
  · rw [rx_of_lastAt hwave (hsender.lastAt_start s.txhist s.now value), Params.rxActiveLevel, hrxIdle]
    rfl
  · exact rx_of_lastAt hwave (hsender.lastAt_cell s.txhist s.now value k u hk hfrom hto)

/-- Settles O58: the inverter between undoes the sender's inversion, and the receiver's complements what was sent. -/
theorem roundTripInRigB : Obligations.RoundTripInRigB := by
  intro s t r value isLast hwf htxInvert hidle hstartCells hsend htpb hrxIdle hrxInvert hbit0 hphase hwave hnow hstretch
  obtain rfl := Host.Outcome.next.inj ((exec_sendByte value isLast s).symm.trans hsend)
  obtain ⟨-, heven⟩ := Params.wellFormed_tpb hwf
  have hsender : RigSender s.cfg := ⟨hwf, htxInvert, hidle, hstartCells⟩
  have hreceiver : RigReceiver s.cfg.tpb s.now r := ⟨htpb, heven, hrxInvert, hbit0, hphase, hnow, hstretch⟩
  have hinverted : ∀ u l, (s.afterFrame value isLast).txhist.lastAt u = some l → r.rx u = l.inv := fun u l hl =>
    rx_of_lastAt hwave (by rw [Wave.lastAt_map_inv, hl]; rfl)
  rw [← complement_sentByte]
  refine hreceiver.receives ?_ fun k u hk hfrom hto => ?_
  · rw [hinverted _ _ (hsender.lastAt_start s.txhist s.now value), Params.rxActiveLevel, hrxIdle]
  · rw [hinverted _ _ (hsender.lastAt_cell s.txhist s.now value k u hk hfrom hto), Level.inv_ofBit,
      BitVec.getLsbD_not, decide_eq_true hk, Bool.true_and]

end Sys2Proof.Machine
end

section
/-! PROOFS. Encodings: the calls by name and the native calls, read and written (O42, O43, O44), and how the step runs the word
placed for it (O46). -/

namespace Sys2Proof

/-! ### Operands -/

/-- A one-bit operand is read from its digit alone. -/
theorem eq_toNat_of_bitOperand {n : Nat} {b : Bool} (h : bitOperand n = some b) : n = b.toNat := by
  unfold bitOperand at h
  split at h <;> cases h <;> rfl

/-- An eight-bit operand is read from its value alone. -/
theorem eq_toNat_of_byteOperand {n : Nat} {b : Byte} (h : byteOperand n = some b) : n = b.toNat := by
  unfold byteOperand at h
  split at h
  · obtain rfl := Option.some.inj h
    exact (Nat.mod_eq_of_lt ‹_›).symm
  · cases h

/-- Cutting a byte to seven bits twice is cutting it once (R91). -/
@[simp] theorem sevenBits_sevenBits (b : Byte) : sevenBits (sevenBits b) = sevenBits b := by
  simp only [sevenBits, BitVec.and_assoc, BitVec.and_self]

/-- A byte below 128 has seven bits already. -/
theorem sevenBits_of_lt {b : Byte} (h : b.toNat < 128) : sevenBits b = b := by
  refine BitVec.eq_of_toNat_eq ?_
  calc (sevenBits b).toNat = b.toNat &&& 2 ^ 7 - 1 := rfl
    _ = b.toNat % 2 ^ 7 := Nat.and_two_pow_sub_one_eq_mod _ _
    _ = b.toNat := Nat.mod_eq_of_lt h

/-! ### Calls by name (R100) -/

/-- Calling an instruction by its name gives it back. -/
theorem decodeCall_namedCall (i : Instr) : decodeCall i.namedCall = .ok i := by
  cases i with
  | readPin => exact Laws.NamedCall.readPin
  | writePin v => exact Laws.NamedCall.writePin v
  | delay n => exact Laws.NamedCall.delay n
  | startDetect => exact Laws.NamedCall.startDetect
  | decodeFrame => exact Laws.NamedCall.decodeFrame
  | sendByte value isLast => exact Laws.NamedCall.sendByte value isLast
  | cmdReset => exact Laws.NamedCall.cmdReset
  | cmdBellOn => exact Laws.NamedCall.cmdBellOn
  | cmdBellOff => exact Laws.NamedCall.cmdBellOff
  | cmdClickOn => exact Laws.NamedCall.cmdClickOn
  | cmdClickOff => exact Laws.NamedCall.cmdClickOff
  | cmdLedUpdate m => exact Laws.NamedCall.cmdLedUpdate m
  | cmdLayoutQuery => exact Laws.NamedCall.cmdLayoutQuery

/-- A call without operands is the call by name of the one instruction it can decode to. -/
theorem namedCall_of_noOperands {op : Mnemonic} {i j : Instr} {operands : List Nat} (hj : j.namedCall = .named op [])
    (h : noOperands op j operands = .ok i) : i.namedCall = .named op operands := by
  cases operands with
  | nil =>
    obtain rfl := Except.ok.inj h
    exact hj
  | cons n ns => cases h

/-- A call by name that decodes is the call by name of what it decodes to. -/
theorem namedCall_of_decodeNamed {op : Mnemonic} {operands : List Nat} {i : Instr}
    (h : decodeNamed op operands = .ok i) : i.namedCall = .named op operands := by
  unfold decodeNamed at h
  cases op with
  | writePin =>
    dsimp only at h
    split at h
    next v =>
      split at h
      next b hv =>
        obtain rfl := Except.ok.inj h
        rw [eq_toNat_of_bitOperand hv, Instr.namedCall, Level.toBit_ofBit]
      next => cases h
    next => cases h
  | delay =>
    dsimp only at h
    split at h
    next n =>
      obtain rfl := Except.ok.inj h
      rfl
    next => cases h
  | sendByte =>
    dsimp only at h
    split at h
    next v l =>
      split at h
      next value isLast hv hl =>
        obtain rfl := Except.ok.inj h
        rw [eq_toNat_of_byteOperand hv, eq_toNat_of_bitOperand hl, Instr.namedCall]
      next => cases h
    next => cases h
  | cmdLedUpdate =>
    dsimp only at h
    split at h
    next m =>
      split at h
      next b hm =>
        obtain rfl := Except.ok.inj h
        rw [eq_toNat_of_byteOperand hm, Instr.namedCall]
      next => cases h
    next => cases h
  | _ => exact namedCall_of_noOperands rfl h

/-! ### Native calls (R93) -/

/-- Which command each row of the command table stands for, given the operand byte that comes with it (R92, R93). -/
inductive NativeCommand (operand : Byte) : CommandRow → Instr → Prop
  | reset : NativeCommand operand Config.resetRow .cmdReset
  | bellOn : NativeCommand operand Config.bellOnRow .cmdBellOn
  | bellOff : NativeCommand operand Config.bellOffRow .cmdBellOff
  | clickOn : NativeCommand operand Config.clickOnRow .cmdClickOn
  | clickOff : NativeCommand operand Config.clickOffRow .cmdClickOff
  | led : NativeCommand operand Config.ledRow (.cmdLedUpdate (sevenBits operand))
  | layout : NativeCommand operand Config.layoutRow .cmdLayoutQuery

/-- The bytes of a command are its row's opcode, and the operand's seven bits where the row has one. -/
theorem NativeCommand.encodeBytes_eq {operand : Byte} {row : CommandRow} {i : Instr} (h : NativeCommand operand row i) :
    encodeBytes i = row.opcode :: if row.hasOperand then [sevenBits operand] else [] := by
  cases h with
  | led => simp [encodeBytes, Config.ledRow]
  | _ => rfl

/-- Every command sends frames (R160). -/
theorem NativeCommand.transmits {operand : Byte} {row : CommandRow} {i : Instr} (h : NativeCommand operand row i) :
    Machine.transmits i = true := by
  cases h <;> rfl

/-- An opcode whose low seven bits are those of a row selects the row's command. -/
theorem NativeCommand.decodeNative_eq {opcode operand : Byte} {row : CommandRow} {i : Instr}
    (h : NativeCommand operand row i) (hop : sevenBits opcode = row.opcode) :
    decodeNative opcode operand = .ok i := by
  unfold decodeNative
  rw [hop]
  cases h <;> rfl

/-- Every opcode of the table stands in a row that has a command. -/
theorem exists_nativeCommand {op : Byte} (operand : Byte) (h : op ∈ Config.commandTable.map CommandRow.opcode) :
    ∃ row i, op = row.opcode ∧ NativeCommand operand row i := by
  simp only [Config.commandTable, List.map_cons, List.map_nil, List.mem_cons, List.not_mem_nil, or_false] at h
  obtain h | h | h | h | h | h | h := h
  · exact ⟨_, _, h, .reset⟩
  · exact ⟨_, _, h, .bellOn⟩
  · exact ⟨_, _, h, .bellOff⟩
  · exact ⟨_, _, h, .clickOn⟩
  · exact ⟨_, _, h, .clickOff⟩
  · exact ⟨_, _, h, .led⟩
  · exact ⟨_, _, h, .layout⟩

/-- An opcode of no row is rejected by name (R95). -/
theorem decodeNative_of_unassigned {opcode : Byte} (operand : Byte)
    (h : sevenBits opcode ∉ Config.commandTable.map CommandRow.opcode) :
    decodeNative opcode operand = .error (.unassignedOpcode (opcode.setWidth 7)) := by
  simp only [Config.commandTable, List.map_cons, List.map_nil, List.mem_cons, List.not_mem_nil, or_false, not_or] at h
  simp only [decodeNative, h, if_false]

/-- An opcode of the table has seven bits (R93). -/
theorem NativeCommand.sevenBits_opcode {operand : Byte} {row : CommandRow} {i : Instr} (h : NativeCommand operand row i) :
    sevenBits row.opcode = row.opcode := by
  cases h <;> rfl

/-- A well-formed instruction is encoded by its name or, where it is a command, by its row of the table (R93, R100). -/
theorem encode_cases {i : Instr} (hi : i.wellFormed = true) :
    encode i = i.namedCall ∨ ∃ row operand, encode i = .native row.opcode operand ∧ NativeCommand operand row i := by
  cases i with
  | cmdReset => exact .inr ⟨Config.resetRow, 0, rfl, .reset⟩
  | cmdBellOn => exact .inr ⟨Config.bellOnRow, 0, rfl, .bellOn⟩
  | cmdBellOff => exact .inr ⟨Config.bellOffRow, 0, rfl, .bellOff⟩
  | cmdClickOn => exact .inr ⟨Config.clickOnRow, 0, rfl, .clickOn⟩
  | cmdClickOff => exact .inr ⟨Config.clickOffRow, 0, rfl, .clickOff⟩
  | cmdLayoutQuery => exact .inr ⟨Config.layoutRow, 0, rfl, .layout⟩
  | cmdLedUpdate m =>
    have hm : sevenBits m = m := sevenBits_of_lt (of_decide_eq_true hi)
    have hled := NativeCommand.led (operand := m)
    rw [hm] at hled
    exact .inr ⟨Config.ledRow, m, congrArg (Call.native 0x0E) hm, hled⟩
  | _ => exact .inl rfl

/-- A well-formed instruction is what its encoding decodes to. -/
theorem decodeCall_encode {i : Instr} (hi : i.wellFormed = true) : decodeCall (encode i) = .ok i := by
  obtain hnamed | ⟨row, operand, hnative, hcommand⟩ := encode_cases hi
  · rw [hnamed, decodeCall_namedCall]
  · rw [hnative]
    exact hcommand.decodeNative_eq hcommand.sevenBits_opcode

/-- Settles O42: by instruction for what is encoded, by mnemonic for what is called by name. -/
theorem decodeOfEncodeIsTheInstruction : Obligations.DecodeOfEncodeIsTheInstruction :=
  ⟨fun _ hi => decodeCall_encode hi, decodeCall_namedCall, fun _ _ _ h => namedCall_of_decodeNamed h⟩

/-- Settles O43, by whether the low seven bits stand in the table. -/
theorem nativeOpcodesAreTheSevenOfTheTable : Obligations.NativeOpcodesAreTheSevenOfTheTable := by
  intro opcode operand
  by_cases hmem : sevenBits opcode ∈ Config.commandTable.map CommandRow.opcode
  · obtain ⟨row, i, hop, hcommand⟩ := exists_nativeCommand operand hmem
    have hdecode : decodeCall (.native opcode operand) = .ok i := hcommand.decodeNative_eq hop
    refine ⟨iff_of_true ⟨i, hdecode⟩ hmem, fun j hj => ?_, fun hnot => absurd hmem hnot⟩
    obtain rfl := Except.ok.inj (hdecode.symm.trans hj)
    rw [hcommand.encodeBytes_eq]
    refine ⟨congrArg some hop.symm, hcommand.transmits, fun b hb => ?_⟩
    split at hb
    · exact (Option.some.inj hb).symm
    · cases hb
  · have hdecode : decodeCall (.native opcode operand) = .error (.unassignedOpcode (opcode.setWidth 7)) :=
      decodeNative_of_unassigned operand hmem
    have hnone : ∀ i, decodeCall (.native opcode operand) ≠ .ok i := fun i => by simp [hdecode]
    exact ⟨iff_of_false (fun ⟨i, hi⟩ => hnone i hi) hmem, fun i hi => absurd hi (hnone i), fun _ => hdecode⟩

/-! ### Table words -/

/-- Settles O44: ten closed words. -/
theorem tableWordsDecode : Obligations.TableWordsDecode := by
  unfold Obligations.TableWordsDecode
  decide

/-- A table word is read as the call its bits stand for. -/
theorem decodeTableWord_eq_some {nbits w : Nat} {i : Instr} :
    decodeTableWord nbits w = some i ↔ decodeCall (callOfBits nbits w) = .ok i := by
  unfold decodeTableWord
  cases decodeCall (callOfBits nbits w) <;> simp

end Sys2Proof

namespace Sys2Proof.Machine

/-- The step that finds a call in front of the queue invokes it, and the queue is as before the call was placed. -/
theorem step_requestCall (c : Call) (s : State) : step (requestCall c s) = invoke c s := rfl

/-- A call that decodes to an operation runs it, and one interrupt point follows (R206). -/
theorem invoke_of_decodeCall {c : Call} {i : Instr} {s t : State} (hdecode : decodeCall c = .ok i)
    (hexec : exec i s = .next t) : invoke c s = .next (t.noteReturn i).interruptPoint := by
  simp only [invoke, hdecode, hexec, andThen_next]

/-- Settles O46: the word is the call placed, and the step invokes it. -/
theorem stepRunsTheFetchedWord : Obligations.StepRunsTheFetchedWord := by
  intro s t nbits w i hword hexec
  rw [State.withFetchWord, step_requestCall]
  exact invoke_of_decodeCall (decodeTableWord_eq_some.1 hword) hexec

end Sys2Proof.Machine
end

section
/-! PROOFS. The places of the bits, inbound (O15) and outbound (O28), and the expansions of the pseudo-operations (O35). -/

namespace Sys2Proof.Machine

/-! ### The places of the bits -/

/-- Settles O15: of eight levels `7 - k` follow the k-th. -/
theorem assemblyPlacesEachBit : Obligations.AssemblyPlacesEachBit := by
  intro c r ls hlen k l hl
  have hk : k < ls.length := (List.getElem?_eq_some_iff.1 hl).1
  exact getLsbD_assemble c r ls k k l (by omega) (by omega) hl

/-- The seven writes of a frame between its start pulse and its stop pattern (R142, R143). -/
def dataWrites (c : Params) (ts : Nat) (value : Byte) : Wave :=
  (List.finRange 7).map fun i => (ts + (c.txStartCells + i.val) * c.tpb, dataLevel c value i)

/-- A frame's writes are the start pulse, the data cells and the stop pattern (R84). -/
theorem frameWrites_eq (c : Params) (ts : Nat) (value : Byte) :
    frameWrites c ts value =
      (ts, c.txStartLevel) :: dataWrites c ts value ++ [(ts + (c.txStartCells + 7) * c.tpb, c.txStopLevel)] := rfl

/-- With TX_INVERT a data cell is the complement of its bit (R88). -/
theorem dataLevel_of_txInvert {c : Params} (h : c.txInvert = true) (value : Byte) (i : Fin 7) :
    dataLevel c value i = (Level.ofBit (value.getLsbD i)).inv := by
  simp [dataLevel, outboundLevel, h]

/-- With TX_INVERT the data cells are the complements of bits 0 to 6, in that order (R88). -/
theorem dataWrites_levels {c : Params} (h : c.txInvert = true) (ts : Nat) (value : Byte) :
    (dataWrites c ts value).map (·.2) = (List.range 7).map fun i => (Level.ofBit (value.getLsbD i)).inv := by
  simp only [dataWrites, List.map_map, Function.comp_def, dataLevel_of_txInvert h]
  rfl

/-- A frame carries bits 0 to 6 of its value alone: of what SEND_BYTE leaves, TXSR alone shows bit 7 (R88). -/
theorem afterFrame_of_lowBits {value value' : Byte} (h : ∀ i : Fin 7, value'.getLsbD i = value.getLsbD i) (isLast : Bool)
    (s : State) : s.afterFrame value' isLast = { s.afterFrame value isLast with txsr := value' } := by
  have hwrites : frameWrites s.cfg s.now value' = frameWrites s.cfg s.now value := by
    simp only [frameWrites_eq, dataWrites, dataLevel, h]
  simp only [State.afterFrame, hwrites]

theorem getLsbD_setBitSeven (value : Byte) (i : Fin 7) : (value ||| 0x80).getLsbD i = value.getLsbD i := by
  have hclear : ∀ i : Fin 7, (0x80 : Byte).getLsbD i = false := by decide
  rw [BitVec.getLsbD_or, hclear, Bool.or_false]

theorem getLsbD_clearBitSeven (value : Byte) (i : Fin 7) : (value &&& 0x7F).getLsbD i = value.getLsbD i := by
  have hset : ∀ i : Fin 7, (0x7F : Byte).getLsbD i = true := by decide
  rw [BitVec.getLsbD_and, hset, Bool.and_true]

/-- Settles O28. -/
theorem sendByteDrivesSevenBitsInOrder : Obligations.SendByteDrivesSevenBitsInOrder := by
  intro value isLast s hinvert
  refine ⟨s.afterFrame value isLast, (s.now, s.cfg.txStartLevel),
    (s.now + (s.cfg.txStartCells + 7) * s.cfg.tpb, s.cfg.txStopLevel), dataWrites s.cfg s.now value,
    exec_sendByte value isLast s, ?_, dataWrites_levels hinvert s.now value, ?_, ?_⟩
  · rw [List.append_assoc, ← frameWrites_eq]
    rfl
  · rw [exec_sendByte, afterFrame_of_lowBits (getLsbD_setBitSeven value)]
  · rw [exec_sendByte, afterFrame_of_lowBits (getLsbD_clearBitSeven value)]

/-! ### The pseudo-operations (R101) -/

/-- A command without operand is one SEND_BYTE of its opcode, with the long stop. -/
theorem issueCommand_of_noOperand {row : CommandRow} (h : row.hasOperand = false) (operand : Byte) (s : State) :
    .next (issueCommand row operand s) = exec (.sendByte row.opcode true) s := by
  simp [issueCommand, commandActions, h, exec, execSendByte]

/-- START_DETECT is READ_PIN with another result: whether the level read is the active one (R114). -/
theorem exec_startDetect_of_readPin (s : State) : ∃ t l, exec .readPin s = .next t ∧ t.host.result = .level l ∧
    exec .startDetect s = .next { t with host := { t.host with result := .truth (decide (l = s.cfg.rxActiveLevel)) } } :=
  ⟨s.recordRead.giveResult (.level (s.rx s.now)), s.rx s.now, rfl, rfl, rfl⟩

/-- Settles O35, operation by operation. -/
theorem pseudoOperationsExpand : Obligations.PseudoOperationsExpand := by
  intro s
  refine ⟨issueCommand_of_noOperand rfl 0 s, issueCommand_of_noOperand rfl 0 s, issueCommand_of_noOperand rfl 0 s,
    issueCommand_of_noOperand rfl 0 s, issueCommand_of_noOperand rfl 0 s, issueCommand_of_noOperand rfl 0 s,
    fun m => ⟨s.afterFrame 0x0E false, exec_sendByte 0x0E false s, ?_⟩, exec_startDetect_of_readPin s⟩
  rw [exec_cmdLedUpdate, exec_sendByte]

end Sys2Proof.Machine
end

section
/-! PROOFS. LineSampler (40_line_sampler.md): what READ_PIN (O3), WRITE_PIN (O4, O5), DELAY (O8 to O10) and START_DETECT (O11)
leave, each from the one closed form of its operation. -/

namespace Sys2Proof.Machine

/-! ### The operations in closed form -/

theorem exec_readPin (s : State) : exec .readPin s = .next (s.recordRead.giveResult (.level (s.rx s.now))) := rfl

theorem exec_writePin (v : Level) (s : State) : exec (.writePin v) s = .next ((s.drive v).giveResult .none) := rfl

theorem exec_delay (n : Nat) (s : State) : exec (.delay n) s = .next ((s.delay n).giveResult .none) := rfl

theorem exec_startDetect (s : State) :
    exec .startDetect s = .next (s.recordRead.giveResult (.truth (startSeen s.cfg (s.rx s.now)))) := rfl

/-! ### READ_PIN and START_DETECT -/

/-- Settles O3. The inbound line is an input: neither a read of it nor a level driven on the other line changes it. -/
theorem readPinReturnsLineLevel : Obligations.ReadPinReturnsLineLevel := by
  intro s
  refine ⟨_, exec_readPin s, rfl, ⟨_, exec_readPin _, ?readAgain⟩, fun v => ⟨_, exec_readPin _, ?readAfterDrive⟩⟩
  case readAgain => exact congrArg HostResult.level (s.recordRead_rx s.now)
  case readAfterDrive => exact congrArg HostResult.level (s.drive_rx v s.now)

theorem startSeen_eq_decide (c : Params) (l : Level) : startSeen c l = decide (l = c.rxActiveLevel) := rfl

/-- Settles O11. -/
theorem startDetectTestsActiveLevel : Obligations.StartDetectTestsActiveLevel := by
  intro s
  rw [exec_startDetect, startSeen_eq_decide]
  rfl

/-! ### WRITE_PIN -/

/-- Settles O4. -/
theorem writePinSetsTxline : Obligations.WritePinSetsTxline :=
  fun v s => exec_writePin v s

/-- Settles O5. -/
theorem writePinTakesEffectAtItsTick : Obligations.WritePinTakesEffectAtItsTick := by
  intro v s
  have htx : ∀ u, ((s.drive v).giveResult .none).tx u = if s.now ≤ u then v else s.tx u := drive_tx v s
  exact ⟨_, exec_writePin v s, fun u hu => (htx u).trans (if_pos hu), fun u hu => (htx u).trans (if_neg hu.not_ge)⟩

/-! ### DELAY -/

/-- Settles O8. -/
theorem delayIsExactWhileMasked : Obligations.DelayIsExactWhileMasked := by
  intro n s hmasked
  rw [exec_delay, delay_of_masked n s hmasked]
  rfl

/-- With IE = 1 the serviced requests leave PEND, and none enters it (R206). -/
theorem pendAfter_of_enabled (s : State) (h : s.ie = true) : s.pendAfter = s.pend - (s.env.irqAt 0).serviced := by
  simp [State.pendAfter, heldAfter, h]

/-- Settles O9: the stretch is that of the one interrupt point of the delay. -/
theorem delayIsOnlyStretchedWhileEnabled : Obligations.DelayIsOnlyStretchedWhileEnabled := by
  intro n s henabled
  refine ⟨s.stretch, ?_⟩
  rw [exec_delay, delay_eq, pendAfter_of_enabled s henabled]
  rfl

/-- With IE = 1 a request that arrives is serviced at once, for as long as is drawn (R204). -/
theorem stretch_of_arrival (s : State) (h : s.ie = true) (ha : (s.env.irqAt 0).arrivals ≠ 0) :
    s.stretch = (s.env.irqAt 0).ticks := by
  simp [State.stretch, serviceTicks, h, ha]

/-- The environment with its next interrupt draw scripted. -/
def Environment.drawingNext (d : IrqDraw) (e : Environment) : Environment :=
  { e with irqs := d :: e.irqs }

@[simp] theorem irqAt_drawingNext (d : IrqDraw) (e : Environment) : (e.drawingNext d).irqAt 0 = d := rfl

/-- Settles O10: the environment that raises one request at the delay and takes `j` ticks to service it. -/
theorem everyStretchCanBeDrawn : Obligations.EveryStretchCanBeDrawn := by
  intro n j s henabled
  have hstretch : { s with env := s.env.drawingNext ⟨1, 0, j⟩ }.stretch = j :=
    stretch_of_arrival { s with env := s.env.drawingNext ⟨1, 0, j⟩ } henabled Nat.one_ne_zero
  exact ⟨s.env.drawingNext ⟨1, 0, j⟩, _, rfl, exec_delay n _, congrArg (s.now + n + ·) hstretch⟩

end Sys2Proof.Machine
end

section
/-! PROOFS. FrameDecoder (41_frame_decoder.md): that DECODE_FRAME completes, and what it leaves (O12), which bits it receives
(O13), how long it takes (O17), and what it makes of an aligned frame (O19) and of a stuck line (O21). -/

namespace Sys2Proof.Machine

/-- Settles O12, by the closed form of DECODE_FRAME. -/
theorem decodeFrameCompletes : Obligations.DecodeFrameCompletes :=
  fun s => exec_decodeFrame s

/-! ### The bits received (O13) -/

/-- With RX_INVERT the logical bit is the complement of the level (R126). -/
theorem logicalBit_of_rxInvert {c : Params} (h : c.rxInvert = true) (l : Level) : logicalBit c l = l.inv.toBit := by
  simp [logicalBit, h]

/-- The `k`-th of a receive's samples is the read at the `k`-th sampling instant (R55). -/
theorem readsUpTo_getElem?_eq_some {s : State} {n k : Nat} {e : Nat × Level} :
    (readsUpTo s n)[k]? = some e ↔ k < n ∧ e = (sampleInstant s k, s.rx (sampleInstant s k)) := by
  by_cases hk : k < n <;> simp [readsUpTo, hk, eq_comm]

/-- There is a ninth read exactly where R131 applies and the parameter has it made (R60; log entry 12). -/
theorem ninthRead_length (s : State) :
    (ninthRead s).length = if s.cfg.rxStartIsBit0 = true ∧ s.cfg.bit0NinthRead = true then 1 else 0 := by
  simp only [ninthRead, Bool.and_eq_true]
  split <;> rfl

/-- Settles O13: the `k`-th sample is the one whose logical bit stands at place `k`, and the closed form does not mention the
register's value on entry (O14). -/
theorem receivedByteIsComplementOfLevelsRead : Obligations.ReceivedByteIsComplementOfLevelsRead := by
  intro s hinvert
  refine ⟨s.afterDecode, sampledReads s, exec_decodeFrame s, rfl, rfl, ninthRead_length s, fun k e he => ?_, fun r => ?_⟩
  · rw [sampledReads_eq_readsUpTo, readsUpTo_getElem?_eq_some] at he
    obtain ⟨hk, rfl⟩ := he
    rw [afterDecode_rxout_getLsbD s k hk, logicalBit_of_rxInvert hinvert]
  · refine ⟨_, exec_decodeFrame _, ?_⟩
    rw [afterDecode_of_rxRegisters s r s.rxcnt s.rxout]

/-! ### The duration of a receive (O17) -/

/-- A receive takes its first delay, seven bit periods and its tail, and the stretch of its nine delays (R129). -/
theorem afterDecode_now_of_startNotBit0 {s : State} (h : s.cfg.rxStartIsBit0 = false) :
    s.afterDecode.now =
      s.now + s.cfg.rxFirstDelay + 7 * s.cfg.tpb + s.cfg.rxTailDelay + State.stretchOver 9 s := by
  simp [State.afterDecode, firstSampleOffset, decodeDelays, delaysBefore, h]

/-- Settles O17: one and a half, seven, and a half bit period make nine, the bit period being even. -/
theorem receiveTakesNineBitPeriodsAndStretch : Obligations.ReceiveTakesNineBitPeriodsAndStretch := by
  intro s hwf hbit0 hfirst htail
  obtain ⟨-, heven⟩ := Params.wellFormed_tpb hwf
  have hnow : s.afterDecode.now = s.now + 9 * s.cfg.tpb + State.stretchOver 9 s := by
    rw [afterDecode_now_of_startNotBit0 hbit0, hfirst, htail]
    omega
  refine ⟨s.afterDecode, exec_decodeFrame s, hnow, fun hmasked => ?_⟩
  rw [hnow, stretchOver_of_masked 9 s hmasked, Nat.add_zero]

/-! ### Lines of a known shape (O19, O21) -/

/-- Settles O19: of the ideal frame the eight data cells alone are read. -/
theorem alignedFrameIsReceived : Obligations.AlignedFrameIsReceived := by
  intro s te b hframe haligned
  have hbyte : s.afterDecode.rxout = b := afterDecode_rxout_of_aligned haligned hframe.data
  exact ⟨s.afterDecode, exec_decodeFrame s, hbyte, congrArg HostResult.code hbyte⟩

/-- A line at one level during all samples is received as eight equal bits (R132). -/
theorem afterDecode_rxout_of_constant {s : State} {l : Level} (h : ∀ k, k < 8 → s.rx (sampleInstant s k) = l) :
    s.afterDecode.rxout = BitVec.fill 8 (logicalBit s.cfg l) := by
  refine BitVec.eq_of_getLsbD_eq fun k hk => ?_
  rw [afterDecode_rxout_getLsbD s k hk, h k hk, BitVec.getLsbD_fill, decide_eq_true hk, Bool.and_true]

/-- Settles O21: the eight equal bits are the complement of the level. -/
theorem stuckLineIsReceivedAsAllEqualBits : Obligations.StuckLineIsReceivedAsAllEqualBits := by
  intro s hinvert
  refine ⟨fun hhigh => ⟨s.afterDecode, exec_decodeFrame s, ?_⟩, fun hlow => ⟨s.afterDecode, exec_decodeFrame s, ?_⟩⟩
  · rw [afterDecode_rxout_of_constant hhigh, logicalBit_of_rxInvert hinvert]
    rfl
  · rw [afterDecode_rxout_of_constant hlow, logicalBit_of_rxInvert hinvert]
    rfl

end Sys2Proof.Machine
end

section
/-! PROOFS. SEND_BYTE (42_byte_transmitter.md): what it leaves (O23), what the line shows (O24), and that its interior is one
critical section (O27, O29). -/

namespace Sys2Proof.Machine

/-- Settles O23, by the closed form of SEND_BYTE. -/
theorem sendByteCompletes : Obligations.SendByteCompletes := exec_sendByte

/-! ### The line at the spec's values (O24) -/

/-- Where the history and the writes of the frame show a level, the line is at that level after the frame. -/
theorem afterFrame_tx_of_lastAt {s : State} {value : Byte} (isLast : Bool) {u : Nat} {l : Level}
    (h : (s.txhist ++ frameWrites s.cfg s.now value).lastAt u = some l) : (s.afterFrame value isLast).tx u = l :=
  congrArg (fun o : Option Level => o.getD s.cfg.txIdleLevel) h

/-- A frame changes nothing of what the line showed before it. -/
theorem afterFrame_tx_of_lt (s : State) (value : Byte) (isLast : Bool) {u : Nat} (h : u < s.now) :
    (s.afterFrame value isLast).tx u = s.tx u :=
  congrArg (fun o : Option Level => o.getD s.cfg.txIdleLevel) (lastAt_frame_before s.txhist s.cfg s.now value u h)

/-- Settles O24: start pulse, data cells and stop pattern, at the levels and the one start cell of R9 and R10. -/
theorem sendByteDrivesTheFrame : Obligations.SendByteDrivesTheFrame := by
  intro value isLast s hinvert hcells hstart hstop
  refine ⟨s.afterFrame value isLast, exec_sendByte value isLast s, hstop, ?_,
    fun u hu => afterFrame_tx_of_lt s value isLast hu, fun u hfrom hto => ?_, fun i u hfrom hto => ?_, fun u hfrom => ?_⟩
  · calc s.now + sendByteTicks s.cfg isLast
        = s.now + (1 + 7 + s.cfg.stopCells isLast) * s.cfg.tpb := by rw [sendByteTicks, hcells]
      _ = s.now + (8 + s.cfg.stopCells isLast) * s.cfg.tpb := rfl
  · rw [← hstart]
    exact afterFrame_tx_of_lastAt isLast
      (lastAt_frame_start s.txhist s.cfg s.now value u hfrom (by rwa [hcells, Nat.one_mul]))
  · have hplace : s.cfg.txStartCells + i.val = i.val + 1 := by rw [hcells, Nat.add_comm]
    rw [← dataLevel_of_txInvert hinvert]
    exact afterFrame_tx_of_lastAt isLast
      (lastAt_frame_data s.txhist s.cfg s.now value u i.val i.isLt (by rwa [hplace]) (by rwa [hplace]))
  · rw [← hstop]
    exact afterFrame_tx_of_lastAt isLast (lastAt_frame_stop s.txhist s.cfg s.now value u (by rwa [hcells]))

/-! ### The critical section (O27, O29) -/

/-- What every action of a list preserves holds after the list. -/
theorem EachAction.preserves {P : State → Prop} {as : List Action} (h : EachAction (fun s t => P s → P t) as) {s : State}
    (hs : P s) : P (runActions as s) := by
  induction as generalizing s with
  | nil => exact hs
  | cons a as ih =>
    obtain ⟨ha, has⟩ := (eachAction_cons a as).1 h
    exact ih has (ha s hs)

/-- SEND_BYTE between its mask and its release. -/
def maskedActions (c : Params) (value : Byte) (isLast : Bool) : List Action :=
  [State.latchTx value isLast, State.setTxPhase .start, State.drive c.txStartLevel,
    State.delay (c.txStartCells * c.tpb)] ++ dataActions c ++ stopBeforeReturn c ++ [State.setTxPhase .idle]

/-- The mask is the first action of SEND_BYTE and the release its last (R146). -/
theorem sendByteActions_eq_masked (c : Params) (value : Byte) (isLast : Bool) :
    sendByteActions c value isLast = State.maskInterrupts :: (maskedActions c value isLast ++ [State.releaseInterrupts]) :=
  rfl

/-- The actions between the mask and the release, of each form once: none of them writes IE. -/
theorem eachAction_maskedActions {R : State → State → Prop} (c : Params) (value : Byte) (isLast : Bool)
    (hlatch : ∀ s : State, R s (s.latchTx value isLast)) (hphase : ∀ p (s : State), R s (s.setTxPhase p))
    (hdrive : ∀ v (s : State), R s (s.drive v)) (hcount : ∀ n (s : State), R s (s.setTxCount n))
    (hdelay : ∀ n (s : State), R s (s.delay n)) : EachAction R (maskedActions c value isLast) := by
  have hdata : ∀ i (s : State), R s (s.driveData i) := fun i s => hdrive _ s
  have hstop : ∀ s : State, R s s.stopDelay := fun s => hdelay _ s
  simp [maskedActions, dataActions, dataCellActions, stopBeforeReturn, hlatch, hphase, hdrive, hdata, hcount, hdelay,
    hstop]

/-- The critical section of a call made in state `s`: masked, no held request lost, the inbound line not read, and the host
side as it was (R146, R149). -/
structure InCriticalSection (s u : State) : Prop where
  masked : u.ie = false
  pend_le : s.pend ≤ u.pend
  rxhist : u.rxhist = s.rxhist
  host : u.host = s.host

namespace InCriticalSection

variable {s u : State}

/-- Entry of the critical section is unconditional (R146). -/
theorem entry (s : State) : InCriticalSection s s.maskInterrupts :=
  ⟨rfl, Nat.le_refl _, rfl, rfl⟩

/-- An action that touches none of the four stays inside. -/
theorem of_unchanged {v : State} (h : InCriticalSection s u) (hie : v.ie = u.ie) (hpend : v.pend = u.pend)
    (hrxhist : v.rxhist = u.rxhist) (hhost : v.host = u.host) : InCriticalSection s v :=
  ⟨hie.trans h.masked, h.pend_le.trans hpend.ge, hrxhist.trans h.rxhist, hhost.trans h.host⟩

/-- A delay inside holds what arrives and services nothing (R205). -/
theorem delay (h : InCriticalSection s u) (n : Nat) : InCriticalSection s (u.delay n) := by
  rw [delay_of_masked n u h.masked]
  exact ⟨h.masked, h.pend_le.trans (Nat.le_add_right _ _), h.rxhist, h.host⟩

end InCriticalSection

/-- No action between the mask and the release leaves the critical section. -/
theorem maskedActions_inCriticalSection (s : State) (c : Params) (value : Byte) (isLast : Bool) :
    EachAction (fun u v => InCriticalSection s u → InCriticalSection s v) (maskedActions c value isLast) :=
  eachAction_maskedActions c value isLast
    (fun _ h => h.of_unchanged rfl rfl rfl rfl)
    (fun _ _ h => h.of_unchanged rfl rfl rfl rfl)
    (fun _ _ h => h.of_unchanged rfl rfl rfl rfl)
    (fun _ _ h => h.of_unchanged rfl rfl rfl rfl)
    (fun n _ h => h.delay n)

/-- At every point of SEND_BYTE after its entry and before its return the machine is in the critical section. -/
theorem inCriticalSection_stateAt_sendByteActions (value : Byte) (isLast : Bool) (s : State) {n : Nat} (h0 : 0 < n)
    (hn : n < (sendByteActions s.cfg value isLast).length) :
    InCriticalSection s (stateAt (sendByteActions s.cfg value isLast) n s) := by
  obtain ⟨m, rfl⟩ := Nat.exists_eq_succ_of_ne_zero h0.ne'
  rw [sendByteActions_eq_masked] at hn ⊢
  have hm : m ≤ (maskedActions s.cfg value isLast).length := by
    rw [List.length_cons, List.length_append, List.length_singleton] at hn
    omega
  have hinside : InCriticalSection s (stateAt (maskedActions s.cfg value isLast) m s.maskInterrupts) :=
    ((maskedActions_inCriticalSection s s.cfg value isLast).take m).preserves (.entry s)
  rwa [← stateAt_append_of_le _ [State.releaseInterrupts] m _ hm] at hinside

/-- Settles O27: the interior is masked, and the closed form has IE = 1. -/
theorem sendByteMasksAndReleasesUnconditionally : Obligations.SendByteMasksAndReleasesUnconditionally := by
  intro value isLast s
  exact ⟨fun n h0 hn => (inCriticalSection_stateAt_sendByteActions value isLast s h0 hn).masked,
    s.afterFrame value isLast, exec_sendByte value isLast s, s.afterFrame_ie value isLast⟩

/-- At the default cell counts a frame lasts nine bit periods, or ten with the long stop (R149). -/
theorem sendByteTicks_of_defaultCells {c : Params} (hstart : c.txStartCells = 1) (hshort : c.stopShortCells = 1)
    (hlong : c.stopLongCells = 2) (isLast : Bool) : sendByteTicks c isLast = (if isLast then 10 else 9) * c.tpb := by
  cases isLast <;> simp [sendByteTicks, Params.stopCells, hstart, hshort, hlong]

/-- Settles O29: the duration from the closed form, the rest from the critical section. -/
theorem sendByteTakesItsFrameAndNothingElseRuns : Obligations.SendByteTakesItsFrameAndNothingElseRuns := by
  intro value isLast s
  refine ⟨s.afterFrame value isLast, exec_sendByte value isLast s, rfl, fun hstart hshort hlong => ?_, fun n h0 hn => ?_⟩
  · exact congrArg (s.now + ·) (sendByteTicks_of_defaultCells hstart hshort hlong isLast)
  · have hinside := inCriticalSection_stateAt_sendByteActions value isLast s h0 hn
    exact ⟨hinside.masked, hinside.pend_le, hinside.rxhist, congrArg HostSide.loop hinside.host,
      congrArg HostSide.queue hinside.host⟩

end Sys2Proof.Machine
end

section
/-! PROOFS. The native commands (43_commands.md): what each leaves (O31, O32), the gap between the two frames of
CMD_LED_UPDATE (O33), and that each of the two is masked by itself (O34). -/

namespace Sys2Proof.Machine

/-! ### What a command leaves -/

/-- A command without operand leaves one frame of its opcode, with the long stop (R160). -/
theorem issueCommand_eq_afterFrame {row : CommandRow} (h : row.hasOperand = false) (operand : Byte) (s : State) :
    .next (issueCommand row operand s) = (.next (s.afterFrame row.opcode true) : Host.Outcome State Fault Refusal) :=
  (issueCommand_of_noOperand h operand s).trans (exec_sendByte row.opcode true s)

/-- Settles O31: each of the six rows has no operand, and its opcode is the literal one. -/
theorem oneByteCommandsSendTheirOpcode : Obligations.OneByteCommandsSendTheirOpcode := by
  intro s
  exact ⟨issueCommand_eq_afterFrame rfl 0 s, issueCommand_eq_afterFrame rfl 0 s, issueCommand_eq_afterFrame rfl 0 s,
    issueCommand_eq_afterFrame rfl 0 s, issueCommand_eq_afterFrame rfl 0 s, issueCommand_eq_afterFrame rfl 0 s⟩

/-- Settles O32, by the closed form of CMD_LED_UPDATE. -/
theorem ledUpdateSendsOpcodeThenBitmask : Obligations.LedUpdateSendsOpcodeThenBitmask := exec_cmdLedUpdate

/-! ### The two frames and the gap (R166, R148) -/

/-- What CMD_LED_UPDATE leaves: the frame of the opcode, the point between the frames, the frame of the bitmask. -/
def State.afterLedUpdate (m : Byte) (s : State) : State :=
  (s.afterFrame 0x0E false).interruptPoint.afterFrame m true

theorem exec_cmdLedUpdate_eq_afterLedUpdate (m : Byte) (s : State) :
    exec (.cmdLedUpdate m) s = .next (s.afterLedUpdate m) := exec_cmdLedUpdate m s

/-- The gap between the two frames of an LED update (R148). -/
def ledGap (s : State) : Nat := (s.afterFrame 0x0E false).stretch

@[simp] theorem State.afterLedUpdate_rxout (m : Byte) (s : State) : (s.afterLedUpdate m).rxout = s.rxout := rfl
@[simp] theorem State.afterLedUpdate_rxhist (m : Byte) (s : State) : (s.afterLedUpdate m).rxhist = s.rxhist := rfl
@[simp] theorem State.afterLedUpdate_ie (m : Byte) (s : State) : (s.afterLedUpdate m).ie = true := rfl
@[simp] theorem State.afterLedUpdate_host (m : Byte) (s : State) :
    (s.afterLedUpdate m).host = { s.host with result := .none } := rfl
@[simp] theorem State.afterLedUpdate_now (m : Byte) (s : State) :
    (s.afterLedUpdate m).now = s.now + sendByteTicks s.cfg false + ledGap s + sendByteTicks s.cfg true := rfl
@[simp] theorem State.afterLedUpdate_txhist (m : Byte) (s : State) :
    (s.afterLedUpdate m).txhist = s.txhist ++ frameWrites s.cfg s.now 0x0E ++
      frameWrites s.cfg (s.now + sendByteTicks s.cfg false + ledGap s) m := rfl

/-- No gap where none is held over the nine delays of the first frame and none arrives at the tenth point (R148). -/
theorem ledGap_of_nothing_held {s : State} (hpend : s.pend + arrivalsOver s.env 9 = 0)
    (harrive : (s.env.irqAt 9).arrivals = 0) : ledGap s = 0 :=
  stretch_of_nothing_held (s.afterFrame 0x0E false) hpend (by simpa using harrive)

/-- Settles O33: history and clock from the closed form, the empty gap from the rule for interrupt points. -/
theorem ledUpdateGapIsTheHeldService : Obligations.LedUpdateGapIsTheHeldService := by
  intro m s
  exact ⟨s.afterLedUpdate m, exec_cmdLedUpdate_eq_afterLedUpdate m s, s.afterLedUpdate_txhist m, s.afterLedUpdate_now m,
    ledGap_of_nothing_held⟩

/-! ### The mask, frame by frame (R146) -/

/-- A point past the first list lies in the second, which starts from what the first leaves. -/
theorem stateAt_append_of_ge (as bs : List Action) {n : Nat} (s : State) (h : as.length ≤ n) :
    stateAt (as ++ bs) n s = stateAt bs (n - as.length) (runActions as s) := by
  rw [stateAt, List.take_append, List.take_of_length_le h, runActions_append, stateAt]

/-- From its end on a list has run whole. -/
theorem stateAt_of_length_le {as : List Action} {n : Nat} (s : State) (h : as.length ≤ n) :
    stateAt as n s = runActions as s := by
  rw [stateAt, List.take_of_length_le h]

/-- SEND_BYTE's actions release the mask (R146). -/
theorem runActions_sendByteActions_ie (value : Byte) (isLast : Bool) (s : State) :
    (runActions (sendByteActions s.cfg value isLast) s).ie = true := by
  simpa using congrArg State.ie (giveResult_runActions_sendByteActions value isLast s)

/-- CMD_LED_UPDATE up to the start of its second frame: the first frame and the gap (R148). -/
def ledLeadActions (c : Params) : List Action :=
  sendByteActions c 0x0E false ++ [State.interruptPoint]

theorem operationActions_cmdLedUpdate (c : Params) (m : Byte) :
    operationActions c (.cmdLedUpdate m) = ledLeadActions c ++ sendByteActions c m true := rfl

theorem ledLeadActions_length (c : Params) :
    (ledLeadActions c).length = (sendByteActions c 0x0E false).length + 1 := by
  simp [ledLeadActions]

/-- The second frame starts with the parameters of the first (R32). -/
theorem runActions_ledLeadActions_cfg (s : State) : (runActions (ledLeadActions s.cfg) s).cfg = s.cfg := by
  simp [ledLeadActions, runActions_append, runActions_sendByteActions_cfg]

/-- The point between the frames leaves IE as the first frame's release left it (R204). -/
theorem runActions_ledLeadActions_ie (s : State) : (runActions (ledLeadActions s.cfg) s).ie = true := by
  simp [ledLeadActions, runActions_append, runActions_sendByteActions_ie]

/-- During the first frame. -/
theorem ledUpdate_masked_in_first (m : Byte) (s : State) {n : Nat} (h0 : 0 < n)
    (hn : n < (sendByteActions s.cfg 0x0E false).length) :
    (stateAt (operationActions s.cfg (.cmdLedUpdate m)) n s).ie = false := by
  rw [operationActions_cmdLedUpdate, ledLeadActions, List.append_assoc, stateAt_append_of_le _ _ n s hn.le]
  exact (inCriticalSection_stateAt_sendByteActions 0x0E false s h0 hn).masked

/-- Before and after the point between the frames. -/
theorem ledUpdate_released_in_gap (m : Byte) (s : State) {n : Nat}
    (hfrom : (sendByteActions s.cfg 0x0E false).length ≤ n) (hto : n ≤ (sendByteActions s.cfg 0x0E false).length + 1) :
    (stateAt (operationActions s.cfg (.cmdLedUpdate m)) n s).ie = true := by
  rw [operationActions_cmdLedUpdate, stateAt_append_of_le _ _ n s (by rwa [ledLeadActions_length])]
  obtain rfl | rfl : n = (sendByteActions s.cfg 0x0E false).length ∨
      n = (sendByteActions s.cfg 0x0E false).length + 1 := by omega
  · rw [ledLeadActions, stateAt_append_of_le _ _ _ s le_rfl, stateAt_of_length_le s le_rfl]
    exact runActions_sendByteActions_ie 0x0E false s
  · rw [stateAt_of_length_le s (ledLeadActions_length s.cfg).le]
    exact runActions_ledLeadActions_ie s

/-- During the second frame, which is a call of its own from the state that the gap leaves. -/
theorem ledUpdate_masked_in_second (m : Byte) (s : State) {n : Nat}
    (hfrom : (sendByteActions s.cfg 0x0E false).length + 1 < n)
    (hto : n < (operationActions s.cfg (.cmdLedUpdate m)).length) :
    (stateAt (operationActions s.cfg (.cmdLedUpdate m)) n s).ie = false := by
  have hcfg := runActions_ledLeadActions_cfg s
  rw [← ledLeadActions_length] at hfrom
  rw [operationActions_cmdLedUpdate, List.length_append] at hto
  rw [operationActions_cmdLedUpdate, stateAt_append_of_ge _ _ s hfrom.le]
  have hmasked := inCriticalSection_stateAt_sendByteActions m true (runActions (ledLeadActions s.cfg) s)
    (n := n - (ledLeadActions s.cfg).length) (by omega) (by rw [hcfg]; omega)
  rw [hcfg] at hmasked
  exact hmasked.masked

/-- At the return. -/
theorem ledUpdate_released_at_return (m : Byte) (s : State) {n : Nat}
    (h : (operationActions s.cfg (.cmdLedUpdate m)).length ≤ n) :
    (stateAt (operationActions s.cfg (.cmdLedUpdate m)) n s).ie = true := by
  have hend := runActions_sendByteActions_ie m true (runActions (ledLeadActions s.cfg) s)
  rw [runActions_ledLeadActions_cfg] at hend
  rwa [stateAt_of_length_le s h, operationActions_cmdLedUpdate, runActions_append]

/-- Settles O34: frame, gap, frame and return. -/
theorem ledUpdateMasksEachFrameByItself : Obligations.LedUpdateMasksEachFrameByItself := by
  intro m s n
  exact ⟨ledUpdate_masked_in_first m s, ledUpdate_released_in_gap m s, ledUpdate_masked_in_second m s,
    ledUpdate_released_at_return m s⟩

end Sys2Proof.Machine
end

section
/-! PROOFS. The LED byte in MainLoop (44_host_sequencer.md): an Idle iteration sends one update of it (O55), and until then it
is held (O59). -/

namespace Sys2Proof.Machine

/-! ### The Idle iteration (R168, R182) -/

/-- Where the host has asked for nothing the step is MainLoop's. -/
theorem step_of_empty_queue {s : State} (h : s.host.queue = []) : step s = loopStep s := by
  rw [step, hostStep, h]

theorem loopStep_of_idle {s : State} (h : s.host.loop = .idle) : loopStep s = loopIdle s := by
  rw [loopStep, h]

/-- What an Idle iteration leaves: what surrounding software leaves where no LED byte is newly available, else that byte taken
and one LED update. -/
theorem loopIdle_cases (s : State) :
    (newestLed (s.env.workAt 0) s.host.newLed = none ∧
      loopIdle s = .next (s.surroundingWork.setLoop .flush).interruptPoint) ∨
    ∃ (b m : Byte), newestLed (s.env.workAt 0) s.host.newLed = some b ∧ m = (ledMask s.cfg b).setWidth 8 ∧
      loopIdle s = .next (((s.surroundingWork.takeLed.afterLedUpdate m).noteReturn (.cmdLedUpdate m)).setLoop
        .flush).interruptPoint := by
  obtain ⟨hnone, hled⟩ | ⟨b, hsome, hled⟩ := updateLeds_cases s.surroundingWork
  · exact .inl ⟨hnone, by rw [loopIdle, hled, andThen_next]⟩
  · refine .inr ⟨b, _, hsome, rfl, ?_⟩
    rw [loopIdle, hled, exec_cmdLedUpdate_eq_afterLedUpdate, andThen_next, andThen_next, State.surroundingWork_cfg]

/-- Settles O55, by whether an LED byte is newly available. -/
theorem idleIterationSendsAtMostOneLedUpdate : Obligations.IdleIterationSendsAtMostOneLedUpdate := by
  intro s hqueue hloop
  rw [step_of_empty_queue hqueue, loopStep_of_idle hloop]
  obtain ⟨hnone, hstep⟩ | ⟨b, m, hsome, hm, hstep⟩ := loopIdle_cases s
  · refine ⟨_, hstep, rfl, rfl, rfl, hnone, fun _ => ⟨rfl, rfl⟩, fun b hb => ?_⟩
    cases hnone.symm.trans hb
  · refine ⟨_, hstep, by simp, by simp, by simp, by simp, fun hnone => ?_, fun b' hb' => ?_⟩
    · cases hsome.symm.trans hnone
    · obtain rfl := Option.some.inj (hsome.symm.trans hb')
      exact ⟨by simp, ledGap s.surroundingWork.takeLed, by simp [hm]⟩

/-! ### What becomes of the LED byte otherwise (R168, R185) -/

/-- An operation neither brings an LED byte nor takes one (R38). -/
theorem newLed_of_exec {i : Instr} {s t : State} (h : exec i s = .next t) : t.host.newLed = s.host.newLed := by
  obtain ⟨r, hhost⟩ := (operationLeaves_of_exec h).host
  rw [hhost]

theorem newLed_of_andThen_exec {i : Instr} {f : State → State} (hf : ∀ u, (f u).host.newLed = u.host.newLed) {s t : State}
    (h : andThen (exec i s) f = .next t) : t.host.newLed = s.host.newLed := by
  obtain ⟨u, hu, rfl⟩ := (andThen_eq_next _ _ _).1 h
  exact (hf u).trans (newLed_of_exec hu)

/-- Of the host's own actions its work alone may bring an LED byte, and none takes one. -/
theorem newLed_of_runHostAction {a : HostAction} {s t : State} (h : runHostAction a s = .next t) :
    t.host.newLed = if a = .work then newestLed (s.env.workAt 0) s.host.newLed else s.host.newLed := by
  cases a with
  | invoke c =>
    obtain ⟨i, -, hi⟩ | ⟨e, -, he⟩ := invoke_cases c s
    · exact newLed_of_andThen_exec (fun u => by simp) (hi.symm.trans h)
    · cases he.symm.trans h
  | writeIE b => obtain rfl := Host.Outcome.next.inj h; rfl
  | work => obtain rfl := Host.Outcome.next.inj h; rfl

/-- Of MainLoop's actions but the Idle iteration the hand-over alone may bring an LED byte, and none takes one. -/
theorem newLed_of_loopStep {s t : State} (hidle : s.host.loop ≠ .idle) (h : loopStep s = .next t) :
    t.host.newLed =
      if s.host.loop = .flush then newestLed (s.env.workAt 0) s.host.newLed else s.host.newLed := by
  unfold loopStep at h
  cases hloop : s.host.loop <;> rw [hloop] at h
  case poll => exact newLed_of_andThen_exec (fun u => by simp [chooseBranch]) h
  case receive => exact newLed_of_andThen_exec (fun u => by simp) h
  case idle => exact absurd hloop hidle
  case flush => obtain rfl := Host.Outcome.next.inj h; rfl

/-- A held byte is not lost, whether or not surrounding software runs: it stays, or a later one replaces it (log entry 27). -/
theorem ite_newestLed_ne_none (p : Prop) [Decidable p] (d : WorkDraw) {held : Option Byte} (h : held ≠ none) :
    (if p then newestLed d held else held) ≠ none := by
  split
  · simp [newestLed, h]
  · exact h

/-- Settles O59, over what a step can do: MainLoop's next action, or one that the host has asked for. -/
theorem ledByteIsHeldForTheIdleIteration : Obligations.LedByteIsHeldForTheIdleIteration := by
  intro s t h
  obtain ⟨hqueue, hstep⟩ | ⟨a, rest, hqueue, hstep⟩ := step_cases s
  · have hnew (hidle : s.host.loop ≠ .idle) := newLed_of_loopStep hidle (hstep.symm.trans h)
    refine ⟨fun hbusy hheld => ?_, fun hruns => ?_⟩
    · rw [hnew fun hidle => hbusy ⟨hqueue, hidle⟩]
      exact ite_newestLed_ne_none _ _ hheld
    · obtain ⟨-, hflush⟩ | hwork := hruns
      · rw [hnew (by simp [hflush]), if_pos hflush]
      · simp [hqueue] at hwork
  · have hnew := newLed_of_runHostAction (hstep.symm.trans h)
    refine ⟨fun _ hheld => ?_, fun hruns => ?_⟩
    · rw [hnew]
      exact ite_newestLed_ne_none _ _ hheld
    · obtain ⟨hempty, -⟩ | hwork := hruns
      · cases hempty.symm.trans hqueue
      · obtain rfl : a = .work := by simpa [hqueue] using hwork
        rw [hnew, if_pos rfl]
        rfl

end Sys2Proof.Machine
end

section
/-! PROOFS. MainLoop's other iterations and the host's calls (44_host_sequencer.md): a call runs its operation (O45), one sample
decides an iteration (O53), what becomes of a received code (O54), the hand-over (O56), and the host's contract (O60). -/

namespace Sys2Proof.Machine

/-! ### A call of the host (R181, R206) -/

/-- Where the host asks for a call the step is that call, made with the rest of its requests left. -/
theorem step_of_invoke {s : State} {c : Call} {rest : List HostAction} (h : s.host.queue = .invoke c :: rest) :
    step s = invoke c (s.setQueue rest) := by
  rw [step, hostStep, h]
  rfl

/-- Settles O45. -/
theorem stepRunsTheRequestedOperation : Obligations.StepRunsTheRequestedOperation := by
  intro s t c rest i hqueue hdecode hexec
  rw [step_of_invoke hqueue]
  exact invoke_of_decodeCall hdecode hexec

/-! ### The host's contract (R112, R183) -/

@[simp] theorem contractAllows_decodeFrame (s : State) : s.contractAllows .decodeFrame = true ↔
    s.host.point = .returned .startDetect ∧ s.host.result = .truth true := decide_eq_true_iff

@[simp] theorem contractAllows_writePin (s : State) (v : Level) : s.contractAllows (.writePin v) = true ↔
    v = s.cfg.txIdleLevel ∧ s.host.point = .boot := decide_eq_true_iff

/-- An operation other than WRITE_PIN ends boot (R236). -/
theorem afterReturn_of_ne_writePin (p : HostPoint) {i : Instr} (h : ∀ v, i ≠ .writePin v) :
    p.afterReturn i = .returned i := by
  unfold HostPoint.afterReturn
  split
  · exact absurd rfl (h _)
  · rfl

/-! ### MainLoop's poll (R182, R183, R185) -/

/-- What MainLoop's poll leaves: the line read once, and the branch that this sample chooses. -/
def State.afterPoll (s : State) : State :=
  { s with
    rxhist := s.rxhist ++ [(s.now, s.rx s.now)]
    now := s.now + s.stretch
    pend := s.pendAfter
    env := s.env.skipIrqs 1
    host := { s.host with
      result := .truth (decide (s.rx s.now = s.cfg.rxActiveLevel))
      point := .returned .startDetect
      loop := if s.rx s.now = s.cfg.rxActiveLevel then .receive else .idle } }

theorem loopPoll_eq_afterPoll (s : State) : loopPoll s = .next s.afterPoll := by
  rw [loopPoll, exec_startDetect, startSeen_eq_decide, andThen_next]
  simp [chooseBranch, State.afterPoll, State.interruptPoint, State.setLoop, State.noteReturn, State.giveResult,
    State.recordRead, afterReturn_of_ne_writePin, State.stretch, State.pendAfter]

theorem loopStep_of_poll {s : State} (h : s.host.loop = .poll) : loopStep s = .next s.afterPoll := by
  rw [loopStep, h]
  exact loopPoll_eq_afterPoll s

/-- MainLoop goes on to receive only where its sample was active, and that is what the contract asks for. -/
theorem afterPoll_contractAllows_decodeFrame {s : State} (h : s.afterPoll.host.loop = .receive) :
    s.afterPoll.contractAllows .decodeFrame = true := by
  have hactive : s.rx s.now = s.cfg.rxActiveLevel := by
    by_contra hidle
    simp [State.afterPoll, hidle] at h
  simp [State.afterPoll, hactive]

/-- Settles O53. -/
theorem oneSampleDecidesTheIteration : Obligations.OneSampleDecidesTheIteration := by
  intro s hqueue hloop
  rw [step_of_empty_queue hqueue, loopStep_of_poll hloop]
  exact ⟨s.afterPoll, rfl, rfl, afterPoll_contractAllows_decodeFrame⟩

/-! ### The Receiving iteration (R182, R186) -/

theorem loopStep_of_receive {s : State} (h : s.host.loop = .receive) : loopStep s =
    .next (((s.afterDecode.noteReturn .decodeFrame).acceptCode s.afterDecode.rxout).setLoop .flush).interruptPoint := by
  rw [loopStep, h]
  simp only [loopReceive, exec_decodeFrame, andThen_next]

/-- Settles O54, by whether the warm-up still lasts: DECODE_FRAME itself does not count. -/
theorem receivedCodeIsCountedOrHandedOn : Obligations.ReceivedCodeIsCountedOrHandedOn := by
  intro s hqueue hloop
  rw [step_of_empty_queue hqueue, loopStep_of_receive hloop]
  obtain ⟨hwarmup, haccept⟩ | ⟨hready, haccept⟩ :=
    acceptCode_cases s.afterDecode.rxout (s.afterDecode.noteReturn .decodeFrame) <;> rw [haccept]
  · exact ⟨s.afterDecode, _, exec_decodeFrame s, rfl, rfl, rfl, rfl, rfl, rfl, fun _ => ⟨rfl, rfl⟩,
      fun hready => absurd hready (Nat.not_le.2 hwarmup)⟩
  · exact ⟨s.afterDecode, _, exec_decodeFrame s, rfl, rfl, rfl, rfl, rfl, rfl,
      fun hwarmup => absurd hready (Nat.not_le.2 hwarmup), fun _ => ⟨rfl, rfl⟩⟩

/-! ### The report hand-over (R182, R65) -/

theorem loopStep_of_flush {s : State} (h : s.host.loop = .flush) :
    loopStep s = .next (s.surroundingWork.setLoop .poll).interruptPoint := by
  rw [loopStep, h]
  rfl

/-- Settles O56. -/
theorem iterationEndsAtThePoll : Obligations.IterationEndsAtThePoll := by
  intro s hqueue hloop
  rw [step_of_empty_queue hqueue, loopStep_of_flush hloop]
  rfl

/-! ### Where a step leaves the host's thread (O60) -/

/-- Operation `i` is the one that the step from `s` may call: the host's request, or MainLoop's own. -/
inductive StepCalls (s : State) : Instr → Prop
  | request {c : Call} {rest : List HostAction} {i : Instr} (hqueue : s.host.queue = .invoke c :: rest)
      (hdecode : decodeCall c = .ok i) : StepCalls s i
  | poll (hqueue : s.host.queue = []) (hloop : s.host.loop = .poll) : StepCalls s .startDetect
  | receive (hqueue : s.host.queue = []) (hloop : s.host.loop = .receive) : StepCalls s .decodeFrame
  | ledUpdate (hqueue : s.host.queue = []) (hloop : s.host.loop = .idle) (m : Byte) : StepCalls s (.cmdLedUpdate m)

/-- Where a step from `s` to `t` leaves the host's thread, as far as the contract asks: right after an operation it called, with
the test's answer if that was START_DETECT; or somewhere outside the block (log entry 28). -/
inductive StepLeavesThread (s t : State) : Prop
  | returned (i : Instr) (hcalls : StepCalls s i) (hpoint : t.host.point = s.host.point.afterReturn i)
      (hresult : i = .startDetect → t.host.result = .truth (decide (s.rx s.now = s.cfg.rxActiveLevel)))
  | outside (hnocall : ∀ c rest, s.host.queue ≠ .invoke c :: rest) (hpoint : t.host.point = s.host.point.afterOutside)

/-- START_DETECT answers whether the line is active at its tick (R114). -/
theorem result_of_exec_startDetect {s t : State} (h : exec .startDetect s = .next t) :
    t.host.result = .truth (decide (s.rx s.now = s.cfg.rxActiveLevel)) := by
  obtain rfl := Host.Outcome.next.inj h
  rfl

/-- An explicit call leaves the thread at its operation's return. -/
theorem stepLeavesThread_of_invoke {s t : State} {c : Call} {rest : List HostAction}
    (hqueue : s.host.queue = .invoke c :: rest) (h : invoke c (s.setQueue rest) = .next t) : StepLeavesThread s t := by
  obtain ⟨i, hdecode, hi⟩ | ⟨e, -, he⟩ := invoke_cases c (s.setQueue rest)
  · obtain ⟨u, hu, rfl⟩ := (andThen_eq_next _ _ _).1 (hi.symm.trans h)
    obtain ⟨r, hhost⟩ := (operationLeaves_of_exec hu).host
    refine .returned i (.request hqueue hdecode) (by simp [hhost]) ?result
    rintro rfl
    exact (result_of_exec_startDetect hu :)
  · cases he.symm.trans h

/-- MainLoop's own actions: two call an operation, the Idle iteration calls one or none, the hand-over none. -/
theorem stepLeavesThread_of_loopStep {s t : State} (hqueue : s.host.queue = []) (h : loopStep s = .next t) :
    StepLeavesThread s t := by
  have hnocall : ∀ c rest, s.host.queue ≠ .invoke c :: rest := by simp [hqueue]
  cases hloop : s.host.loop with
  | poll =>
    obtain rfl := Host.Outcome.next.inj ((loopStep_of_poll hloop).symm.trans h)
    exact .returned _ (.poll hqueue hloop) (afterReturn_of_ne_writePin _ (by simp)).symm fun _ => rfl
  | receive =>
    obtain rfl := Host.Outcome.next.inj ((loopStep_of_receive hloop).symm.trans h)
    exact .returned _ (.receive hqueue hloop) (by simp) (by simp)
  | idle =>
    rw [loopStep_of_idle hloop] at h
    obtain ⟨-, hidle⟩ | ⟨b, m, -, -, hidle⟩ := loopIdle_cases s <;>
      obtain rfl := Host.Outcome.next.inj (hidle.symm.trans h)
    · exact .outside hnocall rfl
    · refine .returned _ (.ledUpdate hqueue hloop m) ?point (by simp)
      simp [afterReturn_of_ne_writePin]
  | flush =>
    obtain rfl := Host.Outcome.next.inj ((loopStep_of_flush hloop).symm.trans h)
    exact .outside hnocall rfl

theorem stepLeavesThread_of_step {s t : State} (h : step s = .next t) : StepLeavesThread s t := by
  obtain ⟨hqueue, hstep⟩ | ⟨a, rest, hqueue, hstep⟩ := step_cases s <;> rw [hstep] at h
  · exact stepLeavesThread_of_loopStep hqueue h
  · cases a with
    | invoke c => exact stepLeavesThread_of_invoke hqueue h
    | writeIE b =>
      obtain rfl := Host.Outcome.next.inj h
      exact .outside (by simp [hqueue]) rfl
    | work =>
      obtain rfl := Host.Outcome.next.inj h
      exact .outside (by simp [hqueue]) rfl

/-- A START_DETECT is MainLoop's poll or a request of the host. -/
theorem StepCalls.startDetect_cases {s : State} (h : StepCalls s .startDetect) :
    (s.host.queue = [] ∧ s.host.loop = .poll) ∨
      ∃ c rest, s.host.queue = .invoke c :: rest ∧ decodeCall c = .ok .startDetect := by
  cases h with
  | request hqueue hdecode => exact .inr ⟨_, _, hqueue, hdecode⟩
  | poll hqueue hloop => exact .inl ⟨hqueue, hloop⟩

/-- The operation that a step calls is the one that the host's request names, where there is one. -/
theorem StepCalls.eq_of_request {s : State} {c : Call} {rest : List HostAction} {i j : Instr} (h : StepCalls s i)
    (hqueue : s.host.queue = .invoke c :: rest) (hdecode : decodeCall c = .ok j) : j = i := by
  cases h with
  | request hqueue' hdecode' =>
    cases hqueue.symm.trans hqueue'
    exact Except.ok.inj (hdecode.symm.trans hdecode')
  | poll hempty | receive hempty | ledUpdate hempty => cases hempty.symm.trans hqueue

/-- Settles O60, by where the step leaves the thread: outside the block it is at no return, and at boot only if it was; at a
return it is at that of the operation called, and at boot only after WRITE_PIN. -/
theorem contractHoldsOnlyAtBootAndRightAfterDetection : Obligations.ContractHoldsOnlyAtBootAndRightAfterDetection := by
  intro s t h
  have hcfg : t.cfg = s.cfg := (parametersNeverChange s t h).1
  simp only [contractAllows_decodeFrame, contractAllows_writePin, hcfg]
  cases stepLeavesThread_of_step h with
  | returned i hcalls hpoint hresult =>
    rw [hpoint]
    refine ⟨fun ⟨hreturned, htrue⟩ => ?detection, fun v ⟨hidle, hboot⟩ => ?boot⟩
    case detection =>
      obtain rfl := afterReturn_eq_returned _ _ _ hreturned
      have hactive : decide (s.rx s.now = s.cfg.rxActiveLevel) = true :=
        HostResult.truth.inj ((hresult rfl).symm.trans htrue)
      exact ⟨of_decide_eq_true hactive, hcalls.startDetect_cases⟩
    case boot =>
      obtain ⟨hwasBoot, w, rfl⟩ := afterReturn_eq_boot _ _ hboot
      exact ⟨hidle, hwasBoot, fun c rest j hqueue hdecode => ⟨w, hcalls.eq_of_request hqueue hdecode⟩⟩
  | outside hnocall hpoint =>
    rw [hpoint]
    refine ⟨fun ⟨hreturned, _⟩ => absurd hreturned (afterOutside_ne_returned _ _), fun v ⟨hidle, hboot⟩ => ?_⟩
    exact ⟨hidle, (afterOutside_eq_boot _).1 hboot, fun c rest _ hqueue _ => absurd hqueue (hnocall c rest)⟩

end Sys2Proof.Machine
end

section
/-! PROOFS. Exceptions (60_exceptions.md): what an interrupt point changes (O41), that a receive leaves the mask and the transmitter
alone at every point (O22), that no operation fails (O36), and which steps are refused (O47). -/

namespace Sys2Proof.Machine

/-! ### The interrupt point (R204 to R209) -/

/-- Settles O41: the time and the held requests are those of the point, under the mask and without it. -/
theorem interruptServiceIsTransparent : Obligations.InterruptServiceIsTransparent := by
  intro s
  refine ⟨s.stretch, s.pendAfter, rfl, fun hmasked => ?_, fun henabled => ⟨?_, stretch_of_nothing_held s⟩⟩
  · exact ⟨stretch_of_masked s hmasked, pendAfter_of_masked s hmasked⟩
  · rw [pendAfter_of_enabled s henabled]
    exact Nat.sub_le _ _

/-! ### The mask and the transmitter during a receive (R205, R30, R38) -/

/-- IE, the outbound line with its history, and the transmitter's registers: what a receive has no write access to (R38). -/
def State.maskAndTransmitter (s : State) : Bool × Level × Wave × TxPhase × BitVec 8 × BitVec 3 × Bool :=
  (s.ie, s.txline, s.txhist, s.txph, s.txsr, s.txcnt, s.txlast)

theorem maskAndTransmitter_eq_iff {s t : State} : t.maskAndTransmitter = s.maskAndTransmitter ↔
    t.ie = s.ie ∧ t.txline = s.txline ∧ t.txhist = s.txhist ∧ t.txph = s.txph ∧ t.txsr = s.txsr ∧ t.txcnt = s.txcnt ∧
      t.txlast = s.txlast := by
  simp only [State.maskAndTransmitter, Prod.mk.injEq]

/-- No action of a receive writes any of them; its delays pass interrupt points, which do not either (R205). -/
theorem decodeFrameActions_keep_maskAndTransmitter (c : Params) :
    EachAction (fun s t => t.maskAndTransmitter = s.maskAndTransmitter) (decodeFrameActions c) :=
  eachAction_decodeFrameActions c (fun _ => rfl) (fun _ _ => rfl) (fun _ _ => rfl) (fun _ => rfl) (fun _ _ => rfl)
    (fun _ => rfl)

/-- Settles O22: what each action keeps is as it was at every point. -/
theorem receiveNeverTouchesTheMask : Obligations.ReceiveNeverTouchesTheMask := by
  intro s n
  exact maskAndTransmitter_eq_iff.1 ((decodeFrameActions_keep_maskAndTransmitter s.cfg).stateAt n s)

/-! ### What completes, and what is refused (R200, R95, R100) -/

/-- Settles O36: every operation leaves a state; and there is no fault to stop with. -/
theorem noOperationFails : Obligations.NoOperationFails := by
  refine ⟨fun i s => ?_, fun _ f => nomatch f⟩
  obtain ⟨t, ht, -⟩ := exec_leaves i s
  exact ⟨t, ht⟩

/-- Each of MainLoop's actions completes: the operations it calls do. -/
theorem loopStep_completes (s : State) : ∃ t, loopStep s = .next t := by
  cases hloop : s.host.loop with
  | poll => exact ⟨_, loopStep_of_poll hloop⟩
  | receive => exact ⟨_, loopStep_of_receive hloop⟩
  | idle =>
    rw [loopStep_of_idle hloop]
    obtain ⟨-, hnoUpdate⟩ | ⟨_, _, -, -, hupdate⟩ := loopIdle_cases s
    · exact ⟨_, hnoUpdate⟩
    · exact ⟨_, hupdate⟩
  | flush => exact ⟨_, loopStep_of_flush hloop⟩

/-- A call is refused exactly where it does not decode, and for that reason: an operation it names would complete. -/
theorem invoke_eq_refused {c : Call} {s : State} {r : Refusal} :
    invoke c s = .refused r ↔ ∃ e, decodeCall c = .error e ∧ r = refusalOf e := by
  obtain ⟨i, hdecode, hinvoke⟩ | ⟨e, hdecode, hinvoke⟩ := invoke_cases c s
  · obtain ⟨t, hexec, -⟩ := exec_leaves i s
    simp [hinvoke, hexec, hdecode]
  · simp [hinvoke, hdecode, eq_comm]

/-- Of the host's own actions a call alone can be refused. -/
theorem runHostAction_eq_refused {a : HostAction} {s : State} {r : Refusal} :
    runHostAction a s = .refused r ↔ ∃ c, a = .invoke c ∧ ∃ e, decodeCall c = .error e ∧ r = refusalOf e := by
  cases a with
  | invoke c =>
    have hcall : runHostAction (.invoke c) s = invoke c s := rfl
    simp [hcall, invoke_eq_refused]
  | writeIE b | work => simp [runHostAction]

/-- Settles O47, over what a step can do: MainLoop's actions complete, and of the host's requests a call alone can be refused. -/
theorem stepIsRefusedOnlyForACallWithoutOperation : Obligations.StepIsRefusedOnlyForACallWithoutOperation := by
  intro s r
  obtain ⟨hqueue, hstep⟩ | ⟨a, rest, hqueue, hstep⟩ := step_cases s
  · obtain ⟨t, ht⟩ := loopStep_completes s
    simp [hstep, ht, hqueue]
  · rw [hstep, runHostAction_eq_refused, hqueue]
    constructor
    · rintro ⟨c, rfl, e, hdecode, hr⟩
      exact ⟨c, rest, e, rfl, hdecode, hr⟩
    · rintro ⟨c, rest', e, hrequest, hdecode, hr⟩
      exact ⟨c, (List.cons.inj hrequest).1, e, hdecode, hr⟩

end Sys2Proof.Machine
end

section
/-! PROOFS. Reset and hazards (70_reset_and_hazards.md): a mask of the caller's is lost in a call that sends a frame (O52). -/

namespace Sys2Proof.Machine

/-- Settles O52: the operation returns with IE = 1, and neither the note of its return nor the interrupt point after it writes
IE. That IE = 0 on entry is not used: the release of R146 is unconditional. -/
theorem callersMaskDoesNotSurviveATransmit : Obligations.CallersMaskDoesNotSurviveATransmit := by
  intro s c rest i hqueue hdecode htransmits _
  obtain ⟨u, hexec, hie⟩ := onlyTransmitsWriteIE i (s.setQueue rest)
  have hreleased : u.ie = true := by rw [hie, if_pos htransmits]
  have hstep : step s = .next (u.noteReturn i).interruptPoint :=
    stepRunsTheRequestedOperation s u c rest i hqueue hdecode hexec
  exact ⟨_, hstep, by simp [hreleased]⟩

end Sys2Proof.Machine
end
